-- ==== Sys2Proof/Word.lean ====
section
/-! DEFINITION. The word types of the block (R13, R14). Nothing but names: the arithmetic is BitVec's own, which
wraps modulo 2^n as R15 asks of u32 `+`, `-` and `*`. -/

namespace Sys2Proof

/-- A byte is 8 bits (R14). -/
abbrev Byte := BitVec 8

/-- A u16: the CRC-16, the record-header length, `OP_LEN`, `OP_BYTE` (R13, R42). -/
abbrev U16 := BitVec 16

/-- A u32: block addresses, counts, capacities, times, counters (R13). -/
abbrev U32 := BitVec 32

/-- A HOST address as a call names it and `OP_BUF` holds it. `HOST_ADDR_BITS` is OPEN (R92); 64 bits name every address of a
space of up to 2^64 bytes, the widest `Params.wf` allows (DESIGN CHOICE, log 32). -/
abbrev HostAddr := BitVec 64

end Sys2Proof
end

