-- ==== Sys2Proof/Config.lean ====
section
/-! DEFINITION. The implementation parameters of 00_scope.md R9, R10 and R12 and the format constants of R8 and R11.
The spec asks a model to take each parameter "as an argument": they are one record, held in the field `cfg` of State,
which no step writes (log 2). A statement about every state is therefore a statement about every value of them. -/

namespace Sys2Proof

/-- The parameters of R9, R10, R12 and R92. The defaults are the values R9, R10 and R12 give this hardware; those marked
OPEN in R12 and R92 carry a DESIGN CHOICE (log 2). The width or range of a parameter whose rule gives only a value is the
model's own: DESIGN CHOICE, log 34. -/
structure Params where
  /-- `CMD_TIMEOUT_MS` (R9), a u32 as `elapsed` is (R15; R9 gives no width: DESIGN CHOICE, log 34). -/
  cmdTimeoutMs : U32 := 50
  /-- `BUSY_TIMEOUT_MS` (R9; width: log 34). -/
  busyTimeoutMs : U32 := 250
  /-- `SB_PERSIST_INTERVAL_MS` (R9; width: log 34). -/
  sbPersistIntervalMs : U32 := 20000
  /-- `DATA_AGE_INTERVAL_MS` (R9; width: log 34). -/
  dataAgeIntervalMs : U32 := 10000
  /-- `RETRY_CEILING` (R10). R10 gives the value 5 and no width or range: a byte, 0 to 255, as the counters compared with it
are (R37, R46), is the model's DESIGN CHOICE (log 34). -/
  retryCeiling : Byte := 5
  /-- `WATERMARK` (R10). R10 gives the value 32 and no width or range: a u32, as the difference compared with it is (R390), is
the model's DESIGN CHOICE (log 34). -/
  watermark : U32 := 32
  /-- `LOG_BUF_CAP` (R12, OPEN): DESIGN CHOICE 2048, the test vectors' value (log 2). -/
  logBufCap : Nat := 2048
  /-- `SB_VERSION` (R12, OPEN): DESIGN CHOICE 1, the test vectors' value (log 2). -/
  sbVersion : Byte := 1
  /-- `USE_CRC` (R12). -/
  useCrc : Bool := true
  /-- `RESP_CHUNK` (R12). -/
  respChunk : Nat := 8
  /-- `INIT_LOOP_TIMEOUT_MS` (R12, OPEN): DESIGN CHOICE `none` (log 2). -/
  initLoopTimeoutMs : Option U32 := none
  /-- `INIT_CLOCK_BYTES` (R12; R12 gives no range: at least 1, DESIGN CHOICE, log 34). -/
  initClockBytes : Nat := 10
  /-- `SPACER_CLASS` (R12), six bits as the field that holds it (R153). -/
  spacerClass : BitVec 6 := 0
  /-- `SPACER_TYPE` (R12), ten bits as the field that holds it (R153). -/
  spacerType : BitVec 10 := 0
  /-- `HAS_CARD_DETECT` (R12, OPEN): DESIGN CHOICE 1 (log 2). -/
  hasCardDetect : Bool := true
  /-- `HOST_ADDR_BITS` (R92, OPEN): DESIGN CHOICE 32 (log 2). -/
  hostAddrBits : Nat := 32
deriving DecidableEq, Repr

/-- The ranges R12 gives: `LOG_BUF_CAP` a multiple of 512 in `512 .. 2^24 - 512`, `RESP_CHUNK` in `1 .. 8`. `HOST_ADDR_BITS` at
most 64 and `INIT_CLOCK_BYTES` at least 1 are the model's own ranges (DESIGN CHOICE, log 32 and 34). -/
def Params.wf (p : Params) : Bool :=
  p.logBufCap % 512 == 0 && decide (512 ≤ p.logBufCap) && decide (p.logBufCap ≤ 2 ^ 24 - 512)
    && decide (1 ≤ p.respChunk) && decide (p.respChunk ≤ 8) && decide (1 ≤ p.initClockBytes)
    && decide (p.hostAddrBits ≤ 64)

namespace Config

/-- The parameters of the hardware as State.reset holds them (R9, R10, R12; log 2). -/
def default : Params := {}

/-- `BLOCK_SIZE` (R8). -/
def blockSize : Nat := 512

/-- `N_BUF` (R8). -/
def nBuf : Nat := 2

/-- `N_FLIGHTS` (R8). -/
def nFlights : Nat := 32

/-- `N_PART_ENTRIES` (R8). -/
def nPartEntries : Nat := 4

/-- `PART_TYPE` (R11). -/
def partType : Byte := 0x89

/-- `SB_MAGIC`, the bytes of "CUInSpac" (R11). -/
def sbMagic : List Byte := [0x43, 0x55, 0x49, 0x6E, 0x53, 0x70, 0x61, 0x63]

/-- `R1_ERR_MASK` (R134). -/
def r1ErrMask : Byte := 0x7E

/-- `R1_ILLEGAL` (R134). -/
def r1Illegal : Byte := 0x04

/-- `TOK_START` (R140). -/
def tokStart : Byte := 0xFE

/-- `TOK_START_MULTI` (R140). -/
def tokStartMulti : Byte := 0xFC

/-- `TOK_STOP` (R140). -/
def tokStop : Byte := 0xFD

/-- The fill byte of a receive-only byte clock, also the ready byte of a busy-poll (R144). -/
def fill : Byte := 0xFF

/-- CMD8's check pattern (R132). -/
def checkPattern : Byte := 0xAA

end Config

end Sys2Proof
end

