-- ==== Sys2Proof/Machine/Bytes.lean ====
section
/-! DEFINITION. Byte order (R14, R96, R97, R98): little-endian for the persisted formats, big-endian on the wire. -/

namespace Sys2Proof

/-- `{hi, lo}` of two bytes. -/
def pack16 (hi lo : Byte) : U16 := hi ++ lo

/-- `{b3, b2, b1, b0}` of four bytes, `b3` the most significant. -/
def pack32 (b3 b2 b1 b0 : Byte) : U32 := b3 ++ b2 ++ b1 ++ b0

/-- `{b7, …, b0}` of eight bytes, `b7` the most significant. -/
def pack64 (b7 b6 b5 b4 b3 b2 b1 b0 : Byte) : HostAddr := pack32 b7 b6 b5 b4 ++ pack32 b3 b2 b1 b0

/-- Byte `k` of a word, byte 0 the least significant. -/
def byteOf {n : Nat} (v : BitVec n) (k : Nat) : Byte := v.extractLsb' (8 * k) 8

/-- `b[k]` of a byte sequence (R14). A position past the end gives 00; every caller passes a long enough sequence. -/
def byteAt (b : List Byte) (k : Nat) : Byte := b.getD k 0

/-- `le16(b, o)` (R14). -/
def le16 (b : List Byte) (o : Nat) : U16 := pack16 (byteAt b (o + 1)) (byteAt b o)

/-- `le32(b, o)` (R14). -/
def le32 (b : List Byte) (o : Nat) : U32 :=
  pack32 (byteAt b (o + 3)) (byteAt b (o + 2)) (byteAt b (o + 1)) (byteAt b o)

/-- `be32(b, o)` (R14). -/
def be32 (b : List Byte) (o : Nat) : U32 :=
  pack32 (byteAt b o) (byteAt b (o + 1)) (byteAt b (o + 2)) (byteAt b (o + 3))

/-- The `le16` bytes of a u16, least significant first (R96). -/
def le16Bytes (v : U16) : List Byte := [byteOf v 0, byteOf v 1]

/-- The `le32` bytes of a u32, least significant first (R96). -/
def le32Bytes (v : U32) : List Byte := [byteOf v 0, byteOf v 1, byteOf v 2, byteOf v 3]

/-- The bytes of a HOST address operand, least significant first (log 5, 32). -/
def le64Bytes (v : HostAddr) : List Byte :=
  [byteOf v 0, byteOf v 1, byteOf v 2, byteOf v 3, byteOf v 4, byteOf v 5, byteOf v 6, byteOf v 7]

/-- The bytes of a u32, most significant first (R97). -/
def be32Bytes (v : U32) : List Byte := [byteOf v 3, byteOf v 2, byteOf v 1, byteOf v 0]

/-- The bytes of a u16, most significant first: the data CRC on the wire (R97). -/
def be16Bytes (v : U16) : List Byte := [byteOf v 1, byteOf v 0]

/-- `n` bytes of a number, most significant first: the order in which a table row's bits are sent (R130). -/
def beBytesNat : Nat → Nat → List Byte
  | 0, _ => []
  | n + 1, w => BitVec.ofNat 8 (w / 2 ^ (8 * n)) :: beBytesNat n w

/-- The value of a byte sequence, most significant byte first (R249's `be(csd)`). -/
def beNat (b : List Byte) : Nat := b.foldl (fun a x => a * 256 + x.toNat) 0

/-- `C[hi:lo]` of an unbounded number, `n = hi - lo + 1` bits (R14). -/
def bitsOfNat (c lo n : Nat) : Nat := c / 2 ^ lo % 2 ^ n

end Sys2Proof
end

