-- ==== Sys2Proof/Machine/Crc.lean ====
section
/-! DEFINITION. The CRC generators (40_crc_command.md R200-R204), in the bitwise form of R200 and R203. -/

namespace Sys2Proof

/-- One bit of R200: `fb <- c[6] xor bit; c <- (c << 1)[6:0]; if fb: c <- c xor 0x09`. -/
def crc7Bit (c : BitVec 7) (bit : Bool) : BitVec 7 :=
  if c.getLsbD 6 != bit then (c <<< 1) ^^^ 0x09#7 else c <<< 1

/-- One byte of R200, its most significant bit first. -/
def crc7Byte (c : BitVec 7) (b : Byte) : BitVec 7 :=
  [7, 6, 5, 4, 3, 2, 1, 0].foldl (fun c i => crc7Bit c (b.getLsbD i)) c

/-- `crc7(bytes)` (R200). -/
def crc7Bytes (b : List Byte) : BitVec 7 := b.foldl crc7Byte 0

/-- One round of R203's loop. -/
def crc16Shift (c : U16) : U16 := if c.getLsbD 15 then (c <<< 1) ^^^ 0x1021#16 else c <<< 1

/-- `crc16_update(crc, byte)` (R203). -/
def crc16UpdateByte (c : U16) (b : Byte) : U16 :=
  [0, 1, 2, 3, 4, 5, 6, 7].foldl (fun c _ => crc16Shift c) (c ^^^ (b ++ (0#8)))

/-- `crc16(bytes)` (R204). -/
def crc16Bytes (b : List Byte) : U16 := b.foldl crc16UpdateByte 0

end Sys2Proof
end

