-- ==== Sys2Proof/Syntax.lean ====
section
/-! DEFINITION. The instructions: one constructor per row of spec/opcode_table.json. A host operation carries the
operands of its call (R157); a wire word carries the fields its encoding gives it (R130-R142). -/

namespace Sys2Proof

/-- The response types of R131 and R133. R1 and R1b, R3 and R7 have the same bits
and are told apart by the command sent (R163); a token by the phase that sends or searches it (R162). -/
inductive RType where
  | r1 | r1b | r2 | r3 | r7
deriving DecidableEq, Repr

/-- Where a word stands: a host call record, a frame on the wire, a response of a type, a token searched in a read, a token
sent in a write, a data response. -/
inductive Format where
  | hostop
  | frame
  | resp (t : RType)
  | readToken
  | writeToken
  | dataResp
deriving DecidableEq, Repr

/-- The instructions of spec/opcode_table.json, in the table's order. The spec gives no width for a HOST address operand (`buf`,
`data`, `segments`, `window`, `csd`, `block`, `entry`), for `cb` and `ctx`, or for the indexes `n` and `i`: a HOST address is 64
bits, the others u32 (DESIGN CHOICE, log 32). -/
inductive Instr where
  -- command frames (R130, R131)
  | cmd0 (crc : BitVec 7)
  | cmd1 (crc : BitVec 7)
  | cmd8 (crc : BitVec 7)
  | cmd9 (crc : BitVec 7)
  | cmd12 (crc : BitVec 7)
  | cmd13 (crc : BitVec 7)
  | cmd16 (crc : BitVec 7)
  | cmd17 (arg : U32) (crc : BitVec 7)
  | cmd18 (arg : U32) (crc : BitVec 7)
  | cmd24 (arg : U32) (crc : BitVec 7)
  | cmd25 (arg : U32) (crc : BitVec 7)
  | cmd55 (crc : BitVec 7)
  | acmd41 (crc : BitVec 7)
  | cmd58 (crc : BitVec 7)
  | cmd59 (useCrc : BitVec 1) (crc : BitVec 7)
  -- responses (R133-R138)
  | r1 (status : BitVec 7)
  | r1b (status : BitVec 7)
  | r2 (status : BitVec 7) (second : Byte)
  | r3 (status : BitVec 7) (ocr : U32)
  | r7 (status : BitVec 7) (other : BitVec 20) (voltage : BitVec 4) (echo : Byte)
  -- tokens (R140-R142)
  | tokStart
  | tokStartMulti
  | tokStop
  | dataResponse (ignored : BitVec 3) (status : BitVec 3)
  | dataError (bits : BitVec 4)
  -- block device (R279, R311-R317)
  | sdService (now : U32) (cardDetect : Bool)
  | read (addr count : U32) (buf : HostAddr) (cb ctx : U32)
  | write (addr count : U32) (buf : HostAddr) (cb ctx : U32)
  | status
  | capacityBlocks
  | sdState
  | sdLastError
  -- log engine and producers (R388, R400-R404, R431-R441)
  | logService (now : U32)
  | log (data : HostAddr) (len : U32)
  | logGather (segments : HostAddr) (count : U32)
  | checkout (len : U32)
  | checkin (handle : U32)
  | pause
  | resume
  | setFlightTimestamp (utcSeconds : U32)
  | flightBlocks
  | missedCheckouts
  | logState
  | logFailReason
  -- command/CRC layer (R200-R206, R249)
  | crc7 (data : HostAddr) (len : U32)
  | crc16Update (crc : U16) (byte : Byte)
  | crc16 (data : HostAddr) (len : U32)
  | buildCommand (index argument : U32)
  | parseResponse (window : HostAddr) (len : U32) (expectedLen : Byte)
  | csdCapacity (csd : HostAddr)
  -- partition-table codec (R340-R347)
  | mbrIsValid (block : HostAddr)
  | mbrGetEntry (block : HostAddr) (n : U32)
  | mbrEntryIsValid (entry : HostAddr)
  | mbrEntryType (entry : HostAddr)
  | mbrEntryStartLba (entry : HostAddr)
  | mbrEntryLength (entry : HostAddr)
  | mbrInitTable (block : HostAddr)
  | mbrInitEntry (block : HostAddr) (n : U32) (type : Byte) (start length : U32)
  -- superblock codec (R350-R357)
  | sbIsValid (block : HostAddr)
  | sbVersion (block : HostAddr)
  | sbContinued (block : HostAddr)
  | sbPartitionLength (block : HostAddr)
  | sbFlightGet (block : HostAddr) (i : U32)
  | sbFlightSet (block : HostAddr) (i first num ts : U32)
  | sbFlightSlotFor (block : HostAddr) (cont : Bool)
  | sbInit (block : HostAddr) (partLen : U32)
  -- record-header codec (R360, R361)
  | hdrEncode (cls type length : U16)
  | hdrDecode (b0 b1 b2 b3 : Byte)
deriving DecidableEq, Repr

end Sys2Proof
end

