-- ==== Sys2Proof/Machine/Frame.lean ====
section
/-! DEFINITION. The command frame (30_encoding.md R130-R132, 40_crc_command.md R205) and the command set. -/

namespace Sys2Proof

/-- Bytes 0 to 4 of a frame: start bit 0, direction 1, index, `be32` argument (R130, R205). -/
def frameHead (idx : BitVec 6) (arg : U32) : List Byte := ((0b01#2) ++ idx) :: be32Bytes arg

/-- A frame whose CRC field is given (R130). -/
def frameBytes (idx : BitVec 6) (arg : U32) (crc : BitVec 7) : List Byte :=
  frameHead idx arg ++ [crc ++ (1#1)]

/-- The CRC-7 a frame must carry (R130, R205). -/
def frameCrc (idx : BitVec 6) (arg : U32) : BitVec 7 := crc7Bytes (frameHead idx arg)

/-- `build_command(index, argument)` with the index already reduced modulo 64 (R205). -/
def buildCommandBytes (idx : BitVec 6) (arg : U32) : List Byte := frameBytes idx arg (frameCrc idx arg)

/-- CMD8's argument: voltage nibble 0x1, check pattern 0xAA (R132). -/
def cmd8Arg : U32 := 0x000001AA

/-- ACMD41's argument: bit 30, high-capacity support (R132). -/
def acmd41Arg : U32 := 0x40000000

/-- CMD16's argument, the fixed block length (R132). -/
def cmd16Arg : U32 := 512

/-- CMD59's argument: bit 0 is `USE_CRC` (R132). -/
def cmd59Arg (useCrc : Bool) : U32 := if useCrc then 1 else 0

/-- The index, argument and CRC field of a command frame, for the command rows (R131). -/
def commandOf : Instr → Option (BitVec 6 × U32 × BitVec 7)
  | .cmd0 c => some (0, 0, c)
  | .cmd1 c => some (1, 0, c)
  | .cmd8 c => some (8, cmd8Arg, c)
  | .cmd9 c => some (9, 0, c)
  | .cmd12 c => some (12, 0, c)
  | .cmd13 c => some (13, 0, c)
  | .cmd16 c => some (16, cmd16Arg, c)
  | .cmd17 a c => some (17, a, c)
  | .cmd18 a c => some (18, a, c)
  | .cmd24 a c => some (24, a, c)
  | .cmd25 a c => some (25, a, c)
  | .cmd55 c => some (55, 0, c)
  | .acmd41 c => some (41, acmd41Arg, c)
  | .cmd58 c => some (58, 0, c)
  | .cmd59 u c => some (59, u.setWidth 32, c)
  | _ => none

end Sys2Proof
end

