-- ==== Sys2Proof/WellFormed.lean ====
section
/-! DEFINITION. The checks an instruction must meet beyond its fields' widths: a frame's CRC field is the CRC-7 of its
first five bytes (R130, R207), and `parse_response`'s `expected_len` is 1, 2 or 5 (R206). -/

namespace Sys2Proof

/-- R130: the CRC field is `crc7` of bytes 0 to 4. Words that are no frame carry no CRC. -/
def frameCrcOk (i : Instr) : Bool :=
  match commandOf i with
  | some (idx, arg, crc) => crc == frameCrc idx arg
  | none => true

/-- R206: `expected_len` is one of 1, 2 or 5. -/
def expectedLenOk (i : Instr) : Bool :=
  match i with
  | .parseResponse _ _ n => n == 1 || n == 2 || n == 5
  | _ => true

/-- A well-formed instruction. -/
def Instr.wf (i : Instr) : Bool := frameCrcOk i && expectedLenOk i

end Sys2Proof
end

