-- ==== Sys2Proof/Decode.lean ====
section
/-! DEFINITION. The decoder, total on any bytes and rejecting by name, and after it the encoder, both written from the
encodings of 30_encoding.md. What a word is depends on where it stands (its Format): the opcode table's formats share bit
patterns (log 6). The layout of a host call's operands after its code byte is the model's (log 5). -/

namespace Sys2Proof

/-- Why a word is no instruction. -/
inductive DecodeError where
  /-- the sequence ends inside the word -/
  | truncated
  /-- a Boolean operand is neither 00 nor 01 (log 5) -/
  | badBoolean (b : Byte)
  /-- R157: a host code that is not listed -/
  | unassignedHostCode (code : Byte)
  /-- R130: the start and direction bits are not 01 -/
  | notAFrame (first : Byte)
  /-- R130: the end bit is not 1 -/
  | endBit (last : Byte)
  /-- R131, R162: an index and argument the engine never emits -/
  | notInCommandSet (idx : BitVec 6) (arg : U32)
  /-- R133, R134: bit 7 of the first byte is 1 -/
  | notAResponse (first : Byte)
  /-- R162: a byte that is no token of the place it stands in -/
  | notAToken (b : Byte)
deriving DecidableEq, Repr

/-- One byte. -/
def get8 : List Byte → Except DecodeError (Byte × List Byte)
  | b :: rest => .ok (b, rest)
  | [] => .error .truncated

/-- A u16 operand, least significant byte first (log 5). -/
def get16 : List Byte → Except DecodeError (U16 × List Byte)
  | b0 :: b1 :: rest => .ok (pack16 b1 b0, rest)
  | _ => .error .truncated

/-- A u32 operand, least significant byte first (log 5). -/
def get32 : List Byte → Except DecodeError (U32 × List Byte)
  | b0 :: b1 :: b2 :: b3 :: rest => .ok (pack32 b3 b2 b1 b0, rest)
  | _ => .error .truncated

/-- A HOST address operand, least significant byte first (log 5, 32). -/
def get64 : List Byte → Except DecodeError (HostAddr × List Byte)
  | b0 :: b1 :: b2 :: b3 :: b4 :: b5 :: b6 :: b7 :: rest => .ok (pack64 b7 b6 b5 b4 b3 b2 b1 b0, rest)
  | _ => .error .truncated

/-- A Boolean operand: one byte, 00 or 01 (log 5). -/
def getBool : List Byte → Except DecodeError (Bool × List Byte)
  | b :: rest => if b = 0 then .ok (false, rest) else if b = 1 then .ok (true, rest) else .error (.badBoolean b)
  | [] => .error .truncated

/-- A host operation by its code (R157); `b` holds the operands, whose layout and unstated widths are the model's: log 5, 32.
`hdr_decode` carries its four bytes inline (R361; log 5). -/
def decodeHostOp (code : Byte) (b : List Byte) : Except DecodeError (Instr × List Byte) :=
  match code.toNat with
  | 0x01 => do
    let (now, b) ← get32 b
    let (cardDetect, b) ← getBool b
    .ok (.sdService now cardDetect, b)
  | 0x02 => do
    let (addr, b) ← get32 b
    let (count, b) ← get32 b
    let (buf, b) ← get64 b
    let (cb, b) ← get32 b
    let (ctx, b) ← get32 b
    .ok (.read addr count buf cb ctx, b)
  | 0x03 => do
    let (addr, b) ← get32 b
    let (count, b) ← get32 b
    let (buf, b) ← get64 b
    let (cb, b) ← get32 b
    let (ctx, b) ← get32 b
    .ok (.write addr count buf cb ctx, b)
  | 0x04 => .ok (.status, b)
  | 0x05 => .ok (.capacityBlocks, b)
  | 0x06 => .ok (.sdState, b)
  | 0x07 => .ok (.sdLastError, b)
  | 0x10 => do
    let (now, b) ← get32 b
    .ok (.logService now, b)
  | 0x11 => do
    let (data, b) ← get64 b
    let (len, b) ← get32 b
    .ok (.log data len, b)
  | 0x12 => do
    let (segments, b) ← get64 b
    let (count, b) ← get32 b
    .ok (.logGather segments count, b)
  | 0x13 => do
    let (len, b) ← get32 b
    .ok (.checkout len, b)
  | 0x14 => do
    let (handle, b) ← get32 b
    .ok (.checkin handle, b)
  | 0x15 => .ok (.pause, b)
  | 0x16 => .ok (.resume, b)
  | 0x17 => do
    let (utc, b) ← get32 b
    .ok (.setFlightTimestamp utc, b)
  | 0x18 => .ok (.flightBlocks, b)
  | 0x19 => .ok (.missedCheckouts, b)
  | 0x1A => .ok (.logState, b)
  | 0x1B => .ok (.logFailReason, b)
  | 0x20 => do
    let (data, b) ← get64 b
    let (len, b) ← get32 b
    .ok (.crc7 data len, b)
  | 0x21 => do
    let (crc, b) ← get16 b
    let (byte, b) ← get8 b
    .ok (.crc16Update crc byte, b)
  | 0x22 => do
    let (data, b) ← get64 b
    let (len, b) ← get32 b
    .ok (.crc16 data len, b)
  | 0x23 => do
    let (index, b) ← get32 b
    let (argument, b) ← get32 b
    .ok (.buildCommand index argument, b)
  | 0x24 => do
    let (window, b) ← get64 b
    let (len, b) ← get32 b
    let (expectedLen, b) ← get8 b
    .ok (.parseResponse window len expectedLen, b)
  | 0x25 => do
    let (csd, b) ← get64 b
    .ok (.csdCapacity csd, b)
  | 0x30 => do
    let (block, b) ← get64 b
    .ok (.mbrIsValid block, b)
  | 0x31 => do
    let (block, b) ← get64 b
    let (n, b) ← get32 b
    .ok (.mbrGetEntry block n, b)
  | 0x32 => do
    let (entry, b) ← get64 b
    .ok (.mbrEntryIsValid entry, b)
  | 0x33 => do
    let (entry, b) ← get64 b
    .ok (.mbrEntryType entry, b)
  | 0x34 => do
    let (entry, b) ← get64 b
    .ok (.mbrEntryStartLba entry, b)
  | 0x35 => do
    let (entry, b) ← get64 b
    .ok (.mbrEntryLength entry, b)
  | 0x36 => do
    let (block, b) ← get64 b
    .ok (.mbrInitTable block, b)
  | 0x37 => do
    let (block, b) ← get64 b
    let (n, b) ← get32 b
    let (type, b) ← get8 b
    let (start, b) ← get32 b
    let (length, b) ← get32 b
    .ok (.mbrInitEntry block n type start length, b)
  | 0x38 => do
    let (block, b) ← get64 b
    .ok (.sbIsValid block, b)
  | 0x39 => do
    let (block, b) ← get64 b
    .ok (.sbVersion block, b)
  | 0x3A => do
    let (block, b) ← get64 b
    .ok (.sbContinued block, b)
  | 0x3B => do
    let (block, b) ← get64 b
    .ok (.sbPartitionLength block, b)
  | 0x3C => do
    let (block, b) ← get64 b
    let (i, b) ← get32 b
    .ok (.sbFlightGet block i, b)
  | 0x3D => do
    let (block, b) ← get64 b
    let (i, b) ← get32 b
    let (first, b) ← get32 b
    let (num, b) ← get32 b
    let (ts, b) ← get32 b
    .ok (.sbFlightSet block i first num ts, b)
  | 0x3E => do
    let (block, b) ← get64 b
    let (cont, b) ← getBool b
    .ok (.sbFlightSlotFor block cont, b)
  | 0x3F => do
    let (block, b) ← get64 b
    let (partLen, b) ← get32 b
    .ok (.sbInit block partLen, b)
  | 0x40 => do
    let (cls, b) ← get16 b
    let (type, b) ← get16 b
    let (length, b) ← get16 b
    .ok (.hdrEncode cls type length, b)
  | 0x41 => do
    let (b0, b) ← get8 b
    let (b1, b) ← get8 b
    let (b2, b) ← get8 b
    let (b3, b) ← get8 b
    .ok (.hdrDecode b0 b1 b2 b3, b)
  | _ => .error (.unassignedHostCode code)

/-- A call record: the code byte, then the operands (R157, log 5). -/
def decodeHost : List Byte → Except DecodeError (Instr × List Byte)
  | code :: b => decodeHostOp code b
  | [] => .error .truncated

/-- The command of the set R131 with this index and argument. -/
def decodeCommand (idx : BitVec 6) (arg : U32) (crc : BitVec 7) : Except DecodeError Instr :=
  match idx.toNat with
  | 0 => if arg = 0 then .ok (.cmd0 crc) else .error (.notInCommandSet idx arg)
  | 1 => if arg = 0 then .ok (.cmd1 crc) else .error (.notInCommandSet idx arg)
  | 8 => if arg = cmd8Arg then .ok (.cmd8 crc) else .error (.notInCommandSet idx arg)
  | 9 => if arg = 0 then .ok (.cmd9 crc) else .error (.notInCommandSet idx arg)
  | 12 => if arg = 0 then .ok (.cmd12 crc) else .error (.notInCommandSet idx arg)
  | 13 => if arg = 0 then .ok (.cmd13 crc) else .error (.notInCommandSet idx arg)
  | 16 => if arg = cmd16Arg then .ok (.cmd16 crc) else .error (.notInCommandSet idx arg)
  | 17 => .ok (.cmd17 arg crc)
  | 18 => .ok (.cmd18 arg crc)
  | 24 => .ok (.cmd24 arg crc)
  | 25 => .ok (.cmd25 arg crc)
  | 41 => if arg = acmd41Arg then .ok (.acmd41 crc) else .error (.notInCommandSet idx arg)
  | 55 => if arg = 0 then .ok (.cmd55 crc) else .error (.notInCommandSet idx arg)
  | 58 => if arg = 0 then .ok (.cmd58 crc) else .error (.notInCommandSet idx arg)
  | 59 => if arg.extractLsb' 1 31 = 0 then .ok (.cmd59 (arg.extractLsb' 0 1) crc) else .error (.notInCommandSet idx arg)
  | _ => .error (.notInCommandSet idx arg)

/-- A 6-byte command frame, byte 0 first (R130). -/
def decodeFrame : List Byte → Except DecodeError (Instr × List Byte)
  | f0 :: f1 :: f2 :: f3 :: f4 :: f5 :: rest =>
    if f0.extractLsb' 6 2 ≠ 0b01#2 then .error (.notAFrame f0)
    else if f5.extractLsb' 0 1 ≠ 1#1 then .error (.endBit f5)
    else do
      let i ← decodeCommand (f0.extractLsb' 0 6) (pack32 f1 f2 f3 f4) (f5.extractLsb' 1 7)
      .ok (i, rest)
  | _ => .error .truncated

/-- The R1 byte that opens every response: bit 7 is 0 (R133, R134). -/
def getStatus : List Byte → Except DecodeError (BitVec 7 × List Byte)
  | b :: rest => if b.getLsbD 7 then .error (.notAResponse b) else .ok (b.extractLsb' 0 7, rest)
  | [] => .error .truncated

/-- A 32-bit field of a response, most significant byte first (R97, R137). -/
def getBe32 : List Byte → Except DecodeError (U32 × List Byte)
  | b3 :: b2 :: b1 :: b0 :: rest => .ok (pack32 b3 b2 b1 b0, rest)
  | _ => .error .truncated

/-- A response of the type the command sent fixes (R133-R137, R163). -/
def decodeResponse (t : RType) (b : List Byte) : Except DecodeError (Instr × List Byte) := do
  let (status, b) ← getStatus b
  match t with
  | .r1 => .ok (.r1 status, b)
  | .r1b => .ok (.r1b status, b)
  | .r2 => do
    let (second, b) ← get8 b
    .ok (.r2 status second, b)
  | .r3 => do
    let (ocr, b) ← getBe32 b
    .ok (.r3 status ocr, b)
  | .r7 => do
    let (w, b) ← getBe32 b
    .ok (.r7 status (w.extractLsb' 12 20) (w.extractLsb' 8 4) (w.extractLsb' 0 8), b)

/-- A token searched in a read: the start token or a data-error token (R140, R142, R284). -/
def decodeReadToken : List Byte → Except DecodeError (Instr × List Byte)
  | b :: rest =>
    if b = Config.tokStart then .ok (.tokStart, rest)
    else if b.extractLsb' 4 4 = 0 then .ok (.dataError (b.extractLsb' 0 4), rest)
    else .error (.notAToken b)
  | [] => .error .truncated

/-- A token sent in a write (R140, R293, R298). -/
def decodeWriteToken : List Byte → Except DecodeError (Instr × List Byte)
  | b :: rest =>
    if b = Config.tokStart then .ok (.tokStart, rest)
    else if b = Config.tokStartMulti then .ok (.tokStartMulti, rest)
    else if b = Config.tokStop then .ok (.tokStop, rest)
    else .error (.notAToken b)
  | [] => .error .truncated

/-- The data-response token `xxx0sss1` (R141). -/
def decodeDataResponse : List Byte → Except DecodeError (Instr × List Byte)
  | b :: rest =>
    if b.getLsbD 0 && !b.getLsbD 4 then .ok (.dataResponse (b.extractLsb' 5 3) (b.extractLsb' 1 3), rest)
    else .error (.notAToken b)
  | [] => .error .truncated

/-- The decoder: the instruction a byte sequence holds at a place of this format, and the rest of the sequence. -/
def decode (f : Format) (b : List Byte) : Except DecodeError (Instr × List Byte) :=
  match f with
  | .hostop => decodeHost b
  | .frame => decodeFrame b
  | .resp t => decodeResponse t b
  | .readToken => decodeReadToken b
  | .writeToken => decodeWriteToken b
  | .dataResp => decodeDataResponse b

/-- The format of an instruction's word. TOK_START stands in reads and in writes; the read's is given. -/
def formatOf : Instr → Format
  | .r1 _ => .resp .r1
  | .r1b _ => .resp .r1b
  | .r2 _ _ => .resp .r2
  | .r3 _ _ => .resp .r3
  | .r7 _ _ _ _ => .resp .r7
  | .tokStart => .readToken
  | .tokStartMulti => .writeToken
  | .tokStop => .writeToken
  | .dataResponse _ _ => .dataResp
  | .dataError _ => .readToken
  | i => if (commandOf i).isSome then .frame else .hostop

/-- One operand byte. -/
def put8 (b : Byte) : List Byte := [b]

/-- A Boolean operand. -/
def putBool (b : Bool) : List Byte := [if b then 1 else 0]

/-- The R1 byte of a status (R134). -/
def statusByte (status : BitVec 7) : Byte := (0#1) ++ status

/-- The encoder: the bytes of an instruction, the first at the lowest position (R130-R143, R157, log 5). -/
def encode : Instr → List Byte
  | .cmd0 c => frameBytes 0 0 c
  | .cmd1 c => frameBytes 1 0 c
  | .cmd8 c => frameBytes 8 cmd8Arg c
  | .cmd9 c => frameBytes 9 0 c
  | .cmd12 c => frameBytes 12 0 c
  | .cmd13 c => frameBytes 13 0 c
  | .cmd16 c => frameBytes 16 cmd16Arg c
  | .cmd17 a c => frameBytes 17 a c
  | .cmd18 a c => frameBytes 18 a c
  | .cmd24 a c => frameBytes 24 a c
  | .cmd25 a c => frameBytes 25 a c
  | .cmd55 c => frameBytes 55 0 c
  | .acmd41 c => frameBytes 41 acmd41Arg c
  | .cmd58 c => frameBytes 58 0 c
  | .cmd59 u c => frameBytes 59 (u.setWidth 32) c
  | .r1 s => [statusByte s]
  | .r1b s => [statusByte s]
  | .r2 s second => [statusByte s, second]
  | .r3 s ocr => statusByte s :: be32Bytes ocr
  | .r7 s x v k => statusByte s :: be32Bytes (x ++ v ++ k)
  | .tokStart => [Config.tokStart]
  | .tokStartMulti => [Config.tokStartMulti]
  | .tokStop => [Config.tokStop]
  | .dataResponse x s => [x ++ (0#1) ++ s ++ (1#1)]
  | .dataError e => [(0#4) ++ e]
  | .sdService now cardDetect => 0x01 :: (le32Bytes now ++ putBool cardDetect)
  | .read addr count buf cb ctx => 0x02 :: (le32Bytes addr ++ le32Bytes count ++ le64Bytes buf ++ le32Bytes cb ++ le32Bytes ctx)
  | .write addr count buf cb ctx => 0x03 :: (le32Bytes addr ++ le32Bytes count ++ le64Bytes buf ++ le32Bytes cb ++ le32Bytes ctx)
  | .status => [0x04]
  | .capacityBlocks => [0x05]
  | .sdState => [0x06]
  | .sdLastError => [0x07]
  | .logService now => 0x10 :: (le32Bytes now)
  | .log data len => 0x11 :: (le64Bytes data ++ le32Bytes len)
  | .logGather segments count => 0x12 :: (le64Bytes segments ++ le32Bytes count)
  | .checkout len => 0x13 :: (le32Bytes len)
  | .checkin handle => 0x14 :: (le32Bytes handle)
  | .pause => [0x15]
  | .resume => [0x16]
  | .setFlightTimestamp utc => 0x17 :: (le32Bytes utc)
  | .flightBlocks => [0x18]
  | .missedCheckouts => [0x19]
  | .logState => [0x1A]
  | .logFailReason => [0x1B]
  | .crc7 data len => 0x20 :: (le64Bytes data ++ le32Bytes len)
  | .crc16Update crc byte => 0x21 :: (le16Bytes crc ++ put8 byte)
  | .crc16 data len => 0x22 :: (le64Bytes data ++ le32Bytes len)
  | .buildCommand index argument => 0x23 :: (le32Bytes index ++ le32Bytes argument)
  | .parseResponse window len expectedLen => 0x24 :: (le64Bytes window ++ le32Bytes len ++ put8 expectedLen)
  | .csdCapacity csd => 0x25 :: (le64Bytes csd)
  | .mbrIsValid block => 0x30 :: (le64Bytes block)
  | .mbrGetEntry block n => 0x31 :: (le64Bytes block ++ le32Bytes n)
  | .mbrEntryIsValid entry => 0x32 :: (le64Bytes entry)
  | .mbrEntryType entry => 0x33 :: (le64Bytes entry)
  | .mbrEntryStartLba entry => 0x34 :: (le64Bytes entry)
  | .mbrEntryLength entry => 0x35 :: (le64Bytes entry)
  | .mbrInitTable block => 0x36 :: (le64Bytes block)
  | .mbrInitEntry block n type start length => 0x37 :: (le64Bytes block ++ le32Bytes n ++ put8 type ++ le32Bytes start ++ le32Bytes length)
  | .sbIsValid block => 0x38 :: (le64Bytes block)
  | .sbVersion block => 0x39 :: (le64Bytes block)
  | .sbContinued block => 0x3A :: (le64Bytes block)
  | .sbPartitionLength block => 0x3B :: (le64Bytes block)
  | .sbFlightGet block i => 0x3C :: (le64Bytes block ++ le32Bytes i)
  | .sbFlightSet block i first num ts => 0x3D :: (le64Bytes block ++ le32Bytes i ++ le32Bytes first ++ le32Bytes num ++ le32Bytes ts)
  | .sbFlightSlotFor block cont => 0x3E :: (le64Bytes block ++ putBool cont)
  | .sbInit block partLen => 0x3F :: (le64Bytes block ++ le32Bytes partLen)
  | .hdrEncode cls type length => 0x40 :: (le16Bytes cls ++ le16Bytes type ++ le16Bytes length)
  | .hdrDecode b0 b1 b2 b3 => 0x41 :: (put8 b0 ++ put8 b1 ++ put8 b2 ++ put8 b3)

/-- The longest call record, that of `read`, `write` and `sb_flight_set`: the code, a HOST address and four u32 operands (log 5). -/
def longestRecord : Nat := 25

/-- The format in which an 8-bit word of the opcode table is read when nothing else tells: the row of the table with the
most fixed bits that matches (an assigned host code, then the start and stop tokens, then the data-error token, then the
data response, then R1); log 6. -/
def formatOfByte (b : Byte) : Option Format :=
  if (decodeHostOp b (List.replicate (longestRecord - 1) 0)).isOk then some .hostop
  else if (decodeWriteToken [b]).isOk then some .writeToken
  else if (decodeReadToken [b]).isOk then some .readToken
  else if (decodeDataResponse [b]).isOk then some .dataResp
  else if (decodeResponse .r1 [b]).isOk then some (.resp .r1)
  else none

/-- The format in which a word of the opcode table is read, by its number of bits: 48 is a frame, 40 an R3, 16 an R2 (log 6). -/
def formatOfWord (nbits w : Nat) : Option Format :=
  match nbits with
  | 8 => formatOfByte (BitVec.ofNat 8 w)
  | 16 => some (.resp .r2)
  | 40 => some (.resp .r3)
  | 48 => some .frame
  | _ => none

/-- The bytes of a word of the opcode table, most significant byte first as the table numbers a frame or a response (R130),
followed by operand bytes of zeros up to the longest record. -/
def tableBytes (nbits w : Nat) : List Byte :=
  beBytesNat (nbits / 8) w ++ List.replicate (longestRecord - nbits / 8) 0

/-- The instruction the decoder reads from a word of the opcode table. -/
def decodeTableWord (nbits w : Nat) : Option Instr :=
  match formatOfWord nbits w with
  | some f =>
    match decode f (tableBytes nbits w) with
    | .ok (i, _) => some i
    | .error _ => none
  | none => none

end Sys2Proof
end

