-- ==== Sys2Proof/Machine/State.lean ====
section
/-! DEFINITION. State: every piece of architectural state 10_state.md gives the block (R30-R63), its memories, its
parameters, and the environment data its step reads (46_ports.md). Plain data throughout. Unspecified reset values: log 3;
unlisted memory bytes: log 4; environment data: log 1, 9-13. -/

namespace Sys2Proof.Machine

/-! ## Enumerations -/

/-- `SD_STATE` (R32). -/
inductive SdState where
  | absent | init | ready | read | write | failRetries | unusable | failed
deriving DecidableEq, Repr

/-- `INIT_STEP` (R33). -/
inductive InitStep where
  | clocks | cmd0 | cmd8 | cmd59 | cmd55 | acmd41 | cmd1 | cmd58 | cmd9 | csd | cmd16
deriving DecidableEq, Repr

/-- `OP_PHASE` (R34). -/
inductive OpPhase where
  | none
  | rdCmd | rdToken | rdData | rdStop | rdAbort
  | wrCmd | wrBusy | wrSend | wrDresp | wrFinalBusy | wrStopBusy | wrStopToken | wrStopPostBusy | wrStatus | wrAbort
deriving DecidableEq, Repr

/-- `CMD_PH` (R35). -/
inductive CmdPh where
  | idle | opening | busy | marshal | send | resp | done
deriving DecidableEq, Repr

/-- `CMD_OUT` (R36). -/
inductive CmdOut where
  | ok | timeout | busyTimeout
deriving DecidableEq, Repr

/-- `XFER_ROLE`: what the in-bytes of the pending transaction are for (R39). -/
inductive XferRole where
  | echo | search | payload | payloadStop
deriving DecidableEq, Repr

/-- `OP_DIR` (R42). -/
inductive OpDir where
  | read | write
deriving DecidableEq, Repr

/-- `LOG_STATE` (R44). -/
inductive LogState where
  | acqPt | ptPending | ptParsed | acqSb | sbPending | sbParsed | active | paused
  | tooManyRetries | noValidTable | noValidPartition | outOfSpace | failed
deriving DecidableEq, Repr

/-- `WIF` (R50). -/
inductive Wif where
  | none | data | sb
deriving DecidableEq, Repr

/-- `SB_KIND` (R50). -/
inductive SbKind where
  | periodic | pause | oos
deriving DecidableEq, Repr

/-- The error codes of R500. Unassigned codes have no constructor: no rule produces them (I28). -/
inductive Err where
  | ok
  | cmdTimeout | busyTimeout | writeBusyTimeout | writeRespTimeout | readTokenTimeout
  | r1Error | dataCrc | writeError | dataErrGeneric | dataErrEcc | dataErrRange | readCrc | statusNonzero | dataRespOther
  | rejected | cardRemoved | checkPattern
  | invalidTable | noPartition | badSbMagic | badSbVersion | noFreeSlot
  | outOfSpace
  | voltage | csdVersion | illegalCmd | initLoopTimeout
  | retries | deviceFailed
deriving DecidableEq, Repr

/-- The two execution contexts (R468). -/
inductive Ctx where
  | main | irq
deriving DecidableEq, Repr

/-- The byte-addressed spaces (R90). -/
inductive Space where
  | host | logbuf | sbimg
deriving DecidableEq, Repr

/-- A buffer address: a space and an address in it (R92). R42 gives `OP_BUF` no width and `HOST_ADDR_BITS` is OPEN: the address is
64 bits (DESIGN CHOICE, log 32). -/
structure Ptr where
  space : Space
  addr : HostAddr
deriving DecidableEq, Repr

/-- `OP_CB`: the log engine's own callbacks (R382, R395, R397) or a caller's, opaque to the block (R469). The spec gives a
callback no width: a caller's is named by a u32 (DESIGN CHOICE, log 32). -/
inductive Cb where
  | logRead | logData | logSb
  | client (id : U32)
deriving DecidableEq, Repr

/-- A callback owed: `Callback(cb, ctx, result, blocks)` (R469); `success` tells R159's result. -/
structure CbCall where
  cb : Cb
  ctx : U32
  success : Bool
  blocks : U32
deriving DecidableEq, Repr

/-- A callback made to a client, as the client sees it: `result` in R159's encoding, success 0 and failed 1 (R469). -/
structure CbRecord where
  cb : Cb
  ctx : U32
  result : Byte
  blocks : U32
deriving DecidableEq, Repr

/-- `kind` of `sb_flight_slot_for` (R356). -/
inductive FlightKind where
  | fresh | continued
deriving DecidableEq, Repr

/-- What a host operation returns (R158 and each operation's rule). -/
inductive Ret where
  /-- nothing is returned -/
  | none
  /-- 0 (`Err.ok`) or an error code (R158, R500) -/
  | code (e : Err)
  | byte (v : Byte)
  | half (v : U16)
  | word (v : U32)
  | bool (v : Bool)
  | bytes (v : List Byte)
  /-- `parse_response`: found(k, complete) (R206) -/
  | found (k : Nat) (complete : Bool)
  | notFound
  /-- `csd_capacity`: invalid (R249) -/
  | invalid
  /-- `mbr_get_entry`: a view of 16 bytes at a HOST address (R341) -/
  | view (addr : Nat) (v : List Byte)
  /-- `sb_flight_get` (R354) -/
  | flight (first num ts : U32)
  /-- `sb_flight_slot_for` (R356): the slot and `FRESH` (0) or `CONTINUED` (1) -/
  | slot (i : Nat) (kind : Byte)
  /-- `hdr_decode` (R361) -/
  | header (cls : BitVec 6) (type : BitVec 10) (length : U16)
deriving DecidableEq, Repr

/-! ## Memory -/

/-- A byte-addressed memory: (address, byte) pairs in canonical form, addresses strictly rising, no entry equal to what
an unlisted address reads as. -/
abbrev Memory := List Host.Cell

/-- What an unlisted address reads as: 00 (DESIGN CHOICE, log 4). -/
def Memory.unlisted : Byte := 0

/-- Every address of the list is above `lo`. -/
def Memory.above (lo : Nat) (m : Memory) : Bool := m.all fun c => decide (lo < c.1)

/-- The canonical form. -/
def Memory.wf : Memory → Bool
  | [] => true
  | (a, v) :: rest => v != Memory.unlisted && Memory.above a rest && Memory.wf rest

/-! ## The groups of fields -/

/-- The SD engine's registers (R32-R41, R43). -/
structure Sd where
  state : SdState
  initStep : InitStep
  opPhase : OpPhase
  cmdPh : CmdPh
  cmdIdx : BitVec 6
  cmdArg : U32
  cmdRtype : RType
  cmdBuf : Vector Byte 6
  resp : Vector Byte 5
  respGot : Nat
  cmdPreBusy : Bool
  cmdOut : CmdOut
  csdBuf : Vector Byte 16
  retryCnt : Byte
  cardV2 : Bool
  blockAddr : Bool
  capacity : U32
  session : Bool
  xferPending : Bool
  xferOut : List Byte
  xferInLen : Nat
  xferRole : XferRole
  rxRetain : List Byte
  rxSkip : Bool
  tAnchor : U32
  tLoop : U32
  lastErr : Err
deriving DecidableEq, Repr

/-- The outstanding operation's registers (R42). The spec gives `OP_BUF`, `OP_CB` and `OP_CTX` no width: a 64-bit HOST address and
two u32 (DESIGN CHOICE, log 32). -/
structure Op where
  valid : Bool
  dir : OpDir
  addr : U32
  count : U32
  buf : Ptr
  cb : Cb
  ctx : U32
  len : U16
  idx : U32
  byte : U16
  crc : U16
  done : U32
  err : Err
deriving DecidableEq, Repr

/-- The log engine's registers (R44-R52). -/
structure Lg where
  state : LogState
  failReason : Err
  retry : Byte
  partStart : U32
  partLen : U32
  flightValid : Bool
  flightIdx : BitVec 5
  flFirst : U32
  flNum : U32
  flTs : U32
  wif : Wif
  wifBuf : Fin 2
  wifNblk : U32
  sbKind : SbKind
  pauseReq : Bool
  oosPending : Bool
  tLastPersist : U32
  tLastData : U32
deriving DecidableEq, Repr

/-- The atomic fields of one log buffer (R55). `DATA` is the LOGBUF space (R93). -/
structure Buf where
  count : U32
  checkouts : U32
  pending : Bool
deriving DecidableEq, Repr

/-- The atomic state main and irq share (R53-R55, R516). -/
structure Shared where
  missed : U32
  ip : U32
  buf0 : Buf
  buf1 : Buf
deriving DecidableEq, Repr

/-- The byte-addressed spaces the block holds or reaches (R92-R94). -/
structure Mem where
  host : Memory
  logbuf : Memory
  sbimg : Memory
deriving DecidableEq, Repr

/-- One entry of the agenda: a call, a wire word, or an environment event between steps (R464; log 1). -/
inductive Event where
  /-- a host call record made from a context (R468) -/
  | call (ctx : Ctx) (record : List Byte)
  /-- a wire word at a place of a format: one handler run of the SD engine (log 7, 8) -/
  | wire (f : Format) (word : List Byte)
  /-- the transport completes the pending transaction (R461, R462) -/
  | complete
  /-- the transport's answers to `OpenSession` and `Submit` from now on (R460, R461) -/
  | transport (openOk submitOk : Bool)
  /-- the card will send these in-bytes next, after those already to come (R463) -/
  | card (bytes : List Byte)
  /-- the caller or a producer stores bytes (R92, R433, R560, R561) -/
  | store (space : Space) (addr : Nat) (bytes : List Byte)
  /-- the input `CONTINUE_FLIGHT` (R62) -/
  | continueFlight (v : Bool)
  /-- irq calls arriving at main's next atomic steps, after those already scheduled (R468) -/
  | irqs (batches : List (List Instr))
  /-- what the next client callbacks call, after those already scheduled (R469) -/
  | callbacks (calls : List (List Instr))
  /-- power loss or construction: reset (R550, R554) -/
  | reset
deriving DecidableEq, Repr

/-- The inputs, the ports and the schedule (46_ports.md; log 1, 9-13). -/
structure Env where
  now : U32
  cardDetect : Bool
  continueFlight : Bool
  openOk : Bool
  submitOk : Bool
  done : Bool
  inBytes : List Byte
  stream : List Byte
  critical : Bool
  ctx : Ctx
  agenda : List Event
  irqs : List (List Instr)
  cbScript : List (List Instr)
  cbQueue : Option CbCall
  ret : Ret
  irqRets : List Ret
  cbRets : List Ret
  callbacks : List CbRecord
deriving DecidableEq, Repr

/-- The machine's state. -/
structure State where
  cfg : Params
  sd : Sd
  op : Op
  lg : Lg
  sh : Shared
  mem : Mem
  env : Env
deriving DecidableEq, Repr

/-- Why the machine stops with a fault. None of these is raised by ordinary data. -/
inductive Fault where
  /-- An access to an address outside its space (R92-R94). Raised by every memory access. Safe: the block has no byte there (log 14). -/
  | address (space : Space) (addr : Nat)
  /-- An insertion-point word with `IDX` 2 or 3 or a reserved bit set (R155, R162, I31 "fault if seen"). Raised by `checkout` and the drain. Safe: no rule produces one (log 19). -/
  | insertionPoint (w : U32)
  /-- A read of a value that has no meaning at the time (R63, I26 "fault"): `OP_*` while `OP_VALID = 0`, `RESP` beyond `RESP_GOT`, `FLIGHT_IDX` or the flight's `SB_IMG` while `FLIGHT_VALID = 0`, `BUF[i].DATA` beyond `COUNT`, `WIF_NBLK` while `WIF` is not `W_DATA`. Raised by the block sequencers, the command steps, a persist and the drain callback. Safe: no rule reaches one (log 17). -/
  | meaninglessRead
  /-- A control tuple to which no rule gives a handler (R34). Raised by the poll's dispatch. Safe: no rule produces one (log 18). -/
  | controlTuple
  /-- The poll loop's bound was reached (R277: the loop ends). Raised by `sd_service` and `log_service`. Safe; meant never to happen (log 20). -/
  | pollBound
  /-- The reservation loop's bound was reached. Raised by `checkout`. Safe; meant never to happen (log 20). -/
  | checkoutBound
deriving DecidableEq, Repr

/-- Why the machine has no meaning for what it is asked. -/
inductive Refusal where
  /-- An instruction that has no meaning yet. Raised by `exec`'s arms only. Safe. -/
  | notModelled (mnemonic : String)
  /-- A call from a context that may not make it (R468, R565 "A model should refuse them"). Raised by the step, by irq arrivals and by client callbacks. Safe (log 21). -/
  | contextMisuse
  /-- A call record or wire word that is no instruction and no unassigned host code (R162). Raised by the step. Safe (log 6). -/
  | undecodable (e : DecodeError)
deriving DecidableEq, Repr

/-! ## Updates by group -/

/-- Update the SD engine's registers. -/
def State.onSd (s : State) (f : Sd → Sd) : State := { s with sd := f s.sd }

/-- Update the outstanding operation's registers. -/
def State.onOp (s : State) (f : Op → Op) : State := { s with op := f s.op }

/-- Update the log engine's registers. -/
def State.onLg (s : State) (f : Lg → Lg) : State := { s with lg := f s.lg }

/-- Update the shared atomic fields. -/
def State.onSh (s : State) (f : Shared → Shared) : State := { s with sh := f s.sh }

/-- Update the memories. -/
def State.onMem (s : State) (f : Mem → Mem) : State := { s with mem := f s.mem }

/-- Update the environment. -/
def State.onEnv (s : State) (f : Env → Env) : State := { s with env := f s.env }

/-! ## Reset (R550) -/

/-- The SD engine after reset (R550); unspecified fields: log 3. -/
def Sd.reset : Sd where
  state := .absent
  initStep := .clocks
  opPhase := .none
  cmdPh := .idle
  cmdIdx := 0
  cmdArg := 0
  cmdRtype := .r1
  cmdBuf := Vector.replicate 6 0
  resp := Vector.replicate 5 0
  respGot := 0
  cmdPreBusy := false
  cmdOut := .ok
  csdBuf := Vector.replicate 16 0
  retryCnt := 0
  cardV2 := false
  blockAddr := false
  capacity := 0
  session := false
  xferPending := false
  xferOut := []
  xferInLen := 0
  xferRole := .echo
  rxRetain := []
  rxSkip := false
  tAnchor := 0
  tLoop := 0
  lastErr := .ok

/-- The operation registers after reset (R550); unspecified fields: log 3. -/
def Op.reset : Op where
  valid := false
  dir := .read
  addr := 0
  count := 0
  buf := ⟨.host, 0⟩
  cb := .client 0
  ctx := 0
  len := 0
  idx := 0
  byte := 0
  crc := 0
  done := 0
  err := .ok

/-- The log engine after reset (R550); unspecified fields: log 3. -/
def Lg.reset : Lg where
  state := .acqPt
  failReason := .ok
  retry := 0
  partStart := 0
  partLen := 0
  flightValid := false
  flightIdx := 0
  flFirst := 0
  flNum := 0
  flTs := 0
  wif := .none
  wifBuf := 0
  wifNblk := 0
  sbKind := .periodic
  pauseReq := false
  oosPending := false
  tLastPersist := 0
  tLastData := 0

/-- A log buffer after reset (R55). -/
def Buf.reset : Buf := ⟨0, 0, false⟩

/-- The shared fields after reset: `IP = 0x01000000` (R54). -/
def Shared.reset : Shared := ⟨0, 0x01000000, Buf.reset, Buf.reset⟩

/-- The environment when the machine is constructed: nothing scheduled, no transaction in progress (R553; log 1, 3, 9-13).
Whether the transport then accepts `OpenSession` and `Submit` is any value (I22): `openOk` and `submitOk` start true, until an
event changes them (DESIGN CHOICE, log 10). `done` starts 0, before any `Submit` (DESIGN CHOICE, log 10). -/
def Env.reset : Env where
  now := 0
  cardDetect := false
  continueFlight := false
  openOk := true
  submitOk := true
  done := false
  inBytes := []
  stream := []
  critical := false
  ctx := .main
  agenda := []
  irqs := []
  cbScript := []
  cbQueue := none
  ret := .none
  irqRets := []
  cbRets := []
  callbacks := []

/-- The machine right after reset with given parameters (R550). -/
def State.resetWith (p : Params) : State where
  cfg := p
  sd := Sd.reset
  op := Op.reset
  lg := Lg.reset
  sh := Shared.reset
  mem := ⟨[], [], []⟩
  env := Env.reset

/-- The machine right after reset (R550), with the parameters of Config.lean (log 2). -/
def State.reset : State := State.resetWith Config.default

end Sys2Proof.Machine
end

