-- ==== Sys2Proof/Machine/Operands.lean ====
section
/-! DEFINITION. Operand forms: the command argument (R117), the insertion-point word (R155), the handle (R95, R156), the
flight's addresses (R113, R114), the CSD's fields (R139). -/

namespace Sys2Proof.Machine

/-- `card_arg(a)` (R117): the block address, or the byte address for a byte-addressed card. -/
def cardArg (blockAddr : Bool) (a : U32) : U32 := if blockAddr then a else a * 512

/-- `V` of an insertion-point word (R155). -/
def ipValid (w : U32) : Bool := w.getLsbD 31

/-- `IDX` of an insertion-point word (R155). -/
def ipIdx (w : U32) : Nat := (w.extractLsb' 24 2).toNat

/-- `OFF` of an insertion-point word (R155). -/
def ipOff (w : U32) : Nat := (w.extractLsb' 0 24).toNat

/-- R155, R162: reserved bits 0 and `IDX` 0 or 1. -/
def ipWellFormed (w : U32) : Bool := w.extractLsb' 26 5 == 0#5 && decide (ipIdx w < Config.nBuf)

/-- `mk_ip(v, i, o)` (R155). -/
def mkIp (v : Bool) (i o : Nat) : U32 := BitVec.ofBool v ++ (0#5) ++ BitVec.ofNat 2 i ++ BitVec.ofNat 24 o

/-- `ip_null(w)` (R155): `V` cleared, the rest kept. -/
def ipNull (w : U32) : U32 := w &&& 0x7FFFFFFF#32

/-- The handle `idx*LOG_BUF_CAP + off` (R95, R156). -/
def handleOf (cap i off : Nat) : U32 := BitVec.ofNat 32 (i * cap + off)

/-- The LOGBUF address of byte 0 of buffer `i` (R93). -/
def bufBase (cap i : Nat) : HostAddr := BitVec.ofNat 64 (i * cap)

/-- `BUF[i]` (R55, R60). -/
def Shared.buf (x : Shared) (i : Nat) : Buf := if i = 0 then x.buf0 else x.buf1

/-- Update `BUF[i]`. -/
def Shared.setBuf (x : Shared) (i : Nat) (f : Buf → Buf) : Shared :=
  if i = 0 then { x with buf0 := f x.buf0 } else { x with buf1 := f x.buf1 }

/-- The blocks left in the flight (R113): saturating, with the sum taken exactly. -/
def flightRemaining (x : Lg) : Nat := x.partLen.toNat - (x.flFirst.toNat + x.flNum.toNat)

/-- The device block of the flight's next data block (R113, R114), wrapping. -/
def flightNextBlock (x : Lg) : U32 := x.partStart + x.flFirst + x.flNum

/-- `CSD_STRUCTURE` (R139, R244): bits 7:6 of byte 0. -/
def csdStructure (csd : List Byte) : Nat := bitsOfNat (beNat csd) 126 2

/-- `csd_capacity(csd)` (R249); `none` is `invalid`. -/
def csdCapacityOf (csd : List Byte) : Option U32 :=
  let c := beNat csd
  if bitsOfNat c 126 2 = 0 then
    let bl := bitsOfNat c 80 4
    let cs := bitsOfNat c 62 12
    let m := bitsOfNat c 47 3
    let bytes := (cs + 1) * 2 ^ (m + 2) * 2 ^ bl
    some (BitVec.ofNat 32 (min (bytes / 512) 0xFFFFFFFF))
  else if bitsOfNat c 126 2 = 1 then
    let cs := bitsOfNat c 48 22
    some (BitVec.ofNat 32 (min ((cs + 1) * 1024) 0xFFFFFFFF))
  else none

/-- The byte-addressed capacity cap (R250). -/
def capCapacity (blockAddr : Bool) (capacity : U32) : U32 :=
  if !blockAddr && decide (2 ^ 23 < capacity.toNat) then BitVec.ofNat 32 (2 ^ 23) else capacity

/-- The number of bytes of a response (R133, R280). -/
def responseLength : RType → Nat
  | .r1 => 1
  | .r1b => 1
  | .r2 => 2
  | .r3 => 5
  | .r7 => 5

end Sys2Proof.Machine
end

