-- ==== Sys2Proof/Machine/Flags.lean ====
section
/-! DEFINITION. The bits and conditions the rules test: R1 status bits (R134), the search predicates (R141, R142, R144,
R274, R283), the timeout windows (R15, R272), the watermark (R390), and the codes of the enumerations (R160, R161, R500). -/

namespace Sys2Proof.Machine

/-- `elapsed(anchor) = (now - anchor) mod 2^32` (R15). -/
def elapsed (now anchor : U32) : U32 := now - anchor

/-- A window has expired: `elapsed(anchor) > W` (R272, R513). -/
def expired (now anchor window : U32) : Bool := decide (window.toNat < (elapsed now anchor).toNat)

/-- An R1 error bit is set: `b & R1_ERR_MASK != 0` (R134). -/
def r1HasError (b : Byte) : Bool := b &&& Config.r1ErrMask != 0

/-- The illegal-command bit: `b & R1_ILLEGAL != 0` (R134). -/
def r1IsIllegal (b : Byte) : Bool := b &&& Config.r1Illegal != 0

/-- `P_busy(b) = (b = 0xFF)` (R274): the byte that ends a busy-poll. -/
def isReady (b : Byte) : Bool := b == Config.fill

/-- `P_r1(b) = (b[7] = 0)` (R283). -/
def isResponse (b : Byte) : Bool := !b.getLsbD 7

/-- A data-error token: the high nibble is 0 (R142). -/
def isDataError (b : Byte) : Bool := b.extractLsb' 4 4 == 0#4

/-- `P_tok(b)` (R284): the start token or a data-error token. -/
def isReadToken (b : Byte) : Bool := b == Config.tokStart || isDataError b

/-- `P_dr(b) = ((b & 0x11) = 0x01)` (R141, R295). -/
def isDataResponse (b : Byte) : Bool := b &&& 0x11#8 == 0x01#8

/-- The class of a data-error token, highest first (R142). -/
def dataErrorClass (b : Byte) : Err :=
  if b.getLsbD 3 then .dataErrRange else if b.getLsbD 2 then .dataErrEcc else .dataErrGeneric

/-- The status `b[3:1]` of a data response (R141). -/
def dataResponseStatus (b : Byte) : BitVec 3 := b.extractLsb' 1 3

/-- The watermark test `LOG_BUF_CAP - COUNT <= WATERMARK` (R390, D48); the difference wraps (R15). -/
def nearFull (cap : Nat) (watermark count : U32) : Bool := decide (BitVec.ofNat 32 cap - count ≤ watermark)

/-- OCR bit 20 or 21, the 3.3 V ranges (R138, R242). -/
def ocrVoltageOk (ocr : U32) : Bool := ocr.getLsbD 20 || ocr.getLsbD 21

/-- OCR bit 30, block addressing (R138). -/
def ocrCcs (ocr : U32) : Bool := ocr.getLsbD 30

/-- A terminal SD state (R247). -/
def SdState.terminal : SdState → Bool
  | .failRetries => true
  | .unusable => true
  | .failed => true
  | .absent => false
  | .init => false
  | .ready => false
  | .read => false
  | .write => false

/-- A terminal log state (R44, R399). -/
def LogState.terminal : LogState → Bool
  | .tooManyRetries => true
  | .noValidTable => true
  | .noValidPartition => true
  | .outOfSpace => true
  | .failed => true
  | .acqPt => false
  | .ptPending => false
  | .ptParsed => false
  | .acqSb => false
  | .sbPending => false
  | .sbParsed => false
  | .active => false
  | .paused => false

/-- The code of `SD_STATE` (R160). -/
def SdState.code : SdState → Byte
  | .absent => 0
  | .init => 1
  | .ready => 2
  | .read => 3
  | .write => 4
  | .failRetries => 5
  | .unusable => 6
  | .failed => 7

/-- `status()`'s projection of `SD_STATE` (R161, R313). -/
def SdState.status : SdState → Byte
  | .absent => 0
  | .init => 1
  | .ready => 2
  | .read => 2
  | .write => 2
  | .unusable => 3
  | .failRetries => 4
  | .failed => 4

/-- The code of `LOG_STATE` (R160). -/
def LogState.code : LogState → Byte
  | .acqPt => 0
  | .ptPending => 1
  | .ptParsed => 2
  | .acqSb => 3
  | .sbPending => 4
  | .sbParsed => 5
  | .active => 6
  | .paused => 7
  | .tooManyRetries => 8
  | .noValidTable => 9
  | .noValidPartition => 10
  | .outOfSpace => 11
  | .failed => 12

/-- The code of `INIT_STEP` (R160). -/
def InitStep.code : InitStep → Byte
  | .clocks => 0
  | .cmd0 => 1
  | .cmd8 => 2
  | .cmd59 => 3
  | .cmd55 => 4
  | .acmd41 => 5
  | .cmd1 => 6
  | .cmd58 => 7
  | .cmd9 => 8
  | .csd => 9
  | .cmd16 => 10

/-- The code of `OP_PHASE` (R160). -/
def OpPhase.code : OpPhase → Byte
  | .none => 0
  | .rdCmd => 1
  | .rdToken => 2
  | .rdData => 3
  | .rdStop => 4
  | .rdAbort => 5
  | .wrCmd => 8
  | .wrBusy => 9
  | .wrSend => 10
  | .wrDresp => 11
  | .wrFinalBusy => 12
  | .wrStopBusy => 13
  | .wrStopToken => 14
  | .wrStopPostBusy => 15
  | .wrStatus => 16
  | .wrAbort => 17

/-- The code of `CMD_PH` (R160). -/
def CmdPh.code : CmdPh → Byte
  | .idle => 0
  | .opening => 1
  | .busy => 2
  | .marshal => 3
  | .send => 4
  | .resp => 5
  | .done => 6

/-- The code of `CMD_OUT` (R160). -/
def CmdOut.code : CmdOut → Byte
  | .ok => 0
  | .timeout => 1
  | .busyTimeout => 2

/-- The code of `WIF` (R160). -/
def Wif.code : Wif → Byte
  | .none => 0
  | .data => 1
  | .sb => 2

/-- The code of `SB_KIND` (R160). -/
def SbKind.code : SbKind → Byte
  | .periodic => 0
  | .pause => 1
  | .oos => 2

/-- The code of `kind` (R356): `FRESH` 0, `CONTINUED` 1. -/
def FlightKind.code : FlightKind → Byte
  | .fresh => 0
  | .continued => 1

/-- The code of a callback's result (R159): success 0, failed 1. -/
def resultCode (success : Bool) : Byte := if success then 0 else 1

/-- The callback as its client sees it (R469). -/
def CbCall.record (c : CbCall) : CbRecord := ⟨c.cb, c.ctx, resultCode c.success, c.blocks⟩

/-- The code of an error (R500). -/
def Err.errorCode : Err → Byte
  | .ok => 0
  | .cmdTimeout => 1
  | .busyTimeout => 2
  | .writeBusyTimeout => 3
  | .writeRespTimeout => 4
  | .readTokenTimeout => 5
  | .r1Error => 6
  | .dataCrc => 7
  | .writeError => 8
  | .dataErrGeneric => 9
  | .dataErrEcc => 10
  | .dataErrRange => 11
  | .readCrc => 12
  | .statusNonzero => 13
  | .dataRespOther => 14
  | .rejected => 15
  | .cardRemoved => 16
  | .checkPattern => 17
  | .invalidTable => 20
  | .noPartition => 21
  | .badSbMagic => 22
  | .badSbVersion => 23
  | .noFreeSlot => 24
  | .outOfSpace => 30
  | .voltage => 40
  | .csdVersion => 41
  | .illegalCmd => 42
  | .initLoopTimeout => 43
  | .retries => 44
  | .deviceFailed => 45

end Sys2Proof.Machine
end

