-- ==== Sys2Proof/Machine/Ops.lean ====
section
/-! DEFINITION. The named operations over memory, registers and the transport port, and the block's exception entry
(60_exceptions.md R503 `raise Error` and `finish`) with its return (R510). Everything here is shared by the handlers of the
SD engine and by the log engine. -/

namespace Sys2Proof.Machine

/-! ## Results -/

/-- Why an operation ends without a next state. -/
inductive Stop where
  | fault (f : Fault)
  | refused (r : Refusal)
deriving DecidableEq, Repr

/-- The outcome of a step that ends with this result. -/
def toOutcome (r : Except Stop State) : Host.Outcome State Fault Refusal :=
  match r with
  | .ok s => .next s
  | .error (.fault f) => .fault f
  | .error (.refused f) => .refused f

/-- The result of which an outcome was made. -/
def ofOutcome (o : Host.Outcome State Fault Refusal) : Except Stop State :=
  match o with
  | .next s => .ok s
  | .fault f => .error (.fault f)
  | .refused r => .error (.refused r)

/-- What a handler returns: run a handler again, or end the poll (R18, R277, R380). -/
inductive Ctl where
  | again
  | yield
deriving DecidableEq, Repr

/-! ## Memory -/

/-- The byte at an address; an unlisted address reads as `Memory.unlisted` (log 4). -/
def Memory.read : Memory → Nat → Byte
  | [], _ => Memory.unlisted
  | (a, v) :: rest, x => if x = a then v else Memory.read rest x

/-- Write a byte, keeping the canonical form. -/
def Memory.write : Memory → Nat → Byte → Memory
  | [], x, b => if b = Memory.unlisted then [] else [(x, b)]
  | (a, v) :: rest, x, b =>
    if x < a then
      if b = Memory.unlisted then (a, v) :: rest else (x, b) :: (a, v) :: rest
    else if x = a then
      if b = Memory.unlisted then rest else (x, b) :: rest
    else (a, v) :: Memory.write rest x b

/-- The `n` bytes from address `a` up. -/
def Memory.readList (m : Memory) (a : Nat) : Nat → List Byte
  | 0 => []
  | n + 1 => m.read a :: Memory.readList m (a + 1) n

/-- Write bytes from address `a` up. -/
def Memory.writeList (m : Memory) (a : Nat) : List Byte → Memory
  | [] => m
  | b :: bs => Memory.writeList (m.write a b) (a + 1) bs

/-- The memory of a space (R90). -/
def Mem.space (m : Mem) : Space → Memory
  | .host => m.host
  | .logbuf => m.logbuf
  | .sbimg => m.sbimg

/-- Replace the memory of a space. -/
def Mem.setSpace (m : Mem) (sp : Space) (x : Memory) : Mem :=
  match sp with
  | .host => { m with host := x }
  | .logbuf => { m with logbuf := x }
  | .sbimg => { m with sbimg := x }

/-- How many bytes a space has (R92, R93, R94). -/
def spaceSize (p : Params) : Space → Nat
  | .host => 2 ^ p.hostAddrBits
  | .logbuf => Config.nBuf * p.logBufCap
  | .sbimg => Config.blockSize

/-- The `n` bytes from `a` lie in the space; no byte needs no address. -/
def inSpace (p : Params) (sp : Space) (a n : Nat) : Bool := n == 0 || decide (a + n ≤ spaceSize p sp)

/-- The byte an address of a space holds: the model's view of one byte. -/
def State.peek (s : State) (sp : Space) (a : Nat) : Byte := (s.mem.space sp).read a

/-- The `n` bytes from `a` of a space. -/
def State.peekList (s : State) (sp : Space) (a n : Nat) : List Byte := (s.mem.space sp).readList a n

/-- Store bytes from `a` of a space. -/
def State.poke (s : State) (sp : Space) (a : Nat) (bs : List Byte) : State :=
  s.onMem fun m => m.setSpace sp ((m.space sp).writeList a bs)

/-- `MemRead` of `n` bytes in increasing address order (R92, R101). An address outside the space faults (log 14). -/
def readBytes (s : State) (sp : Space) (a n : Nat) : Except Stop (List Byte) :=
  if inSpace s.cfg sp a n then .ok (s.peekList sp a n)
  else .error (.fault (.address sp (max a (spaceSize s.cfg sp))))

/-- `MemWrite` of bytes in increasing address order (R92, R101). An address outside the space faults (log 14). -/
def writeBytes (s : State) (sp : Space) (a : Nat) (bs : List Byte) : Except Stop State :=
  if inSpace s.cfg sp a bs.length then .ok (s.poke sp a bs)
  else .error (.fault (.address sp (max a (spaceSize s.cfg sp))))

/-! ## Returned values -/

/-- Deliver a returned value: to main in `env.ret`, to irq in `env.irqRets` (log 13). -/
def putRet (r : Ret) (s : State) : State :=
  s.onEnv fun e =>
    match e.ctx with
    | .main => { e with ret := r }
    | .irq => { e with irqRets := e.irqRets ++ [r] }

/-- The code a call that can fail returns (R158). -/
def putCode (e : Err) (s : State) : State := putRet (.code e) s

/-! ## The transport port (R460-R462) -/

/-- The state after an accepted `Submit` (R461): `Done()` is 0 until the transaction completes (R462). -/
def submitted (out : List Byte) (role : XferRole) (s : State) : State :=
  (s.onSd fun d => { d with xferPending := true, xferOut := out, xferInLen := out.length, xferRole := role }).onEnv
    fun e => { e with done := false }

/-- `Submit(out, len(out))` (R461); `none` is a rejection, which changes nothing (log 10). -/
def submit (out : List Byte) (role : XferRole) (s : State) : Option State :=
  if s.env.submitOk then some (submitted out role s) else none

/-- `OpenSession()` (R460); `none` is a rejection, which changes nothing (log 10). -/
def openSession (s : State) : Option State :=
  if s.env.openOk then some (s.onSd fun d => { d with session := true }) else none

/-- `CloseSession()` (R460). -/
def closeSession (s : State) : State := s.onSd fun d => { d with session := false }

/-- The transport completes the pending transaction: the in-bytes are the card's next `n`, the fill once the card has none
to say (R461, R462; log 9). Nothing happens when no transaction is in progress. -/
def completeTransfer (s : State) : State :=
  if s.sd.xferPending && !s.env.done then
    s.onEnv fun e =>
      { e with
        done := true
        inBytes := e.stream.take s.sd.xferInLen ++ List.replicate (s.sd.xferInLen - e.stream.length) Config.fill
        stream := e.stream.drop s.sd.xferInLen }
  else s

/-! ## The byte-stream machine (R272, R275) -/

/-- What a search ends with (R272). -/
inductive Search where
  | found (b : Byte)
  | timeout
  | wait
deriving DecidableEq, Repr

/-- The loop of R272 over the retained bytes: the byte found, `RX_SKIP` after it, and the bytes that stay retained. -/
def scan (p : Byte → Bool) : Bool → List Byte → Option Byte × Bool × List Byte
  | skip, [] => (none, skip, [])
  | true, _ :: rest => scan p false rest
  | false, b :: rest => if p b then (some b, false, rest) else scan p false rest

/-- `search_step(P, W)` (R272); `wait` is YIELD. -/
def searchStep (p : Byte → Bool) (w : U32) (s : State) : Search × State :=
  match scan p s.sd.rxSkip s.sd.rxRetain with
  | (some b, skip, rest) => (.found b, s.onSd fun d => { d with rxSkip := skip, rxRetain := rest })
  | (none, skip, _) =>
    let s := s.onSd fun d => { d with rxSkip := skip, rxRetain := [] }
    if expired s.env.now s.sd.tAnchor w then (.timeout, s)
    else
      match submit (List.replicate s.cfg.respChunk Config.fill) .search s with
      | some s => (.wait, s)
      | none => (.wait, s)

/-- `transmit(out)` (R275): the retained bytes are dropped, then the out-bytes are submitted; `next` is what the handler
writes on acceptance. A rejection leaves the drop, as the pseudocode orders it (log 22). -/
def transmit (out : List Byte) (next : State → State) (s : State) : State :=
  let s := s.onSd fun d => { d with rxRetain := [] }
  match submit out .echo s with
  | some s => next s
  | none => s

/-! ## Single-command execution (R280-R283) -/

/-- `start_cmd(idx, arg, rtype, pre_busy)` (R280). -/
def startCmd (idx : BitVec 6) (arg : U32) (rtype : RType) (preBusy : Bool) (s : State) : State :=
  let s := s.onSd fun d =>
    { d with cmdIdx := idx, cmdArg := arg, cmdRtype := rtype, cmdPreBusy := preBusy, respGot := 0 }
  if !s.sd.session then s.onSd fun d => { d with cmdPh := .opening }
  else if preBusy then s.onSd fun d => { d with cmdPh := .busy, tAnchor := s.env.now }
  else s.onSd fun d => { d with cmdPh := .marshal }

/-- `CP_OPEN` (R281). -/
def cmdOpen (s : State) : Ctl × State :=
  match openSession s with
  | none => (.yield, s)
  | some s =>
    let s := s.onSd fun d => { d with rxRetain := [], rxSkip := false }
    if s.sd.cmdPreBusy then (.again, s.onSd fun d => { d with cmdPh := .busy, tAnchor := s.env.now })
    else (.again, s.onSd fun d => { d with cmdPh := .marshal })

/-- `CP_BUSY` (R282). -/
def cmdBusy (s : State) : Ctl × State :=
  match searchStep isReady s.cfg.busyTimeoutMs s with
  | (.found _, s) => (.again, s.onSd fun d => { d with cmdPh := .marshal })
  | (.timeout, s) => (.again, s.onSd fun d => { d with cmdOut := .busyTimeout, cmdPh := .done })
  | (.wait, s) => (.yield, s)

/-- The six bytes of a frame as `CMD_BUF` holds them (R36). -/
def frameVector (idx : BitVec 6) (arg : U32) : Vector Byte 6 :=
  Vector.ofFn fun k => byteAt (buildCommandBytes idx arg) k

/-- `CP_MARSHAL` (R282). -/
def cmdMarshal (s : State) : Ctl × State :=
  (.again, s.onSd fun d => { d with cmdBuf := frameVector d.cmdIdx d.cmdArg, cmdPh := .send })

/-- `CP_SEND` (R282): after CMD12 one in-byte is to be skipped. -/
def cmdSend (s : State) : Ctl × State :=
  (.yield, transmit s.sd.cmdBuf.toList
    (fun s => s.onSd fun d =>
      { d with cmdPh := .resp, tAnchor := s.env.now, rxSkip := d.rxSkip || d.cmdIdx == 12 }) s)

/-- R283's inner loop: move retained bytes into `RESP` until it holds `len`. -/
def fillResp (len : Nat) : List Byte → Nat → Vector Byte 5 → List Byte × Nat × Vector Byte 5
  | [], got, r => ([], got, r)
  | b :: rest, got, r => if got < len then fillResp len rest (got + 1) (r.setIfInBounds got b) else (b :: rest, got, r)

/-- `CP_RESP` (R283). -/
def cmdResp (s : State) : Ctl × State :=
  let len := responseLength s.sd.cmdRtype
  if s.sd.respGot = 0 then
    match searchStep isResponse s.cfg.cmdTimeoutMs s with
    | (.found b, s) => (.again, s.onSd fun d => { d with resp := d.resp.setIfInBounds 0 b, respGot := 1 })
    | (.timeout, s) => (.again, s.onSd fun d => { d with cmdOut := .timeout, cmdPh := .done })
    | (.wait, s) => (.yield, s)
  else
    match fillResp len s.sd.rxRetain s.sd.respGot s.sd.resp with
    | (retain, got, resp) =>
      let s := s.onSd fun d => { d with rxRetain := retain, respGot := got, resp := resp }
      if got < len then
        match submit (List.replicate (len - got) Config.fill) .search s with
        | some s => (.yield, s)
        | none => (.yield, s)
      else (.again, s.onSd fun d => { d with cmdOut := .ok, cmdPh := .done })

/-- The execution sub-machine, rules R281 to R283, by `CMD_PH`. Every caller handles `CP_IDLE` and `CP_DONE` itself. -/
def cmdStep (s : State) : Ctl × State :=
  match s.sd.cmdPh with
  | .opening => cmdOpen s
  | .busy => cmdBusy s
  | .marshal => cmdMarshal s
  | .send => cmdSend s
  | .resp => cmdResp s
  | .idle => (.yield, s)
  | .done => (.yield, s)

/-- `RESP[k]` (R36). -/
def respByte (s : State) (k : Nat) : Byte := byteAt s.sd.resp.toList k

/-! ## The exception entry: `raise Error` and `finish` (R503), and step failure (R232) -/

/-- `finish(result, to)` (R503; `dest` is `to`): the session closes, the sub-states idle, the code is saved in `SD_LAST_ERR`, `SD_STATE`
moves, and the callback is requested; the poll makes it right after this handler (R469, R510; log 12). -/
def finish (success : Bool) (dest : SdState) (s : State) : State :=
  { s with
    sd := { s.sd with
      session := false, rxRetain := [], rxSkip := false, cmdPh := .idle, opPhase := .none
      lastErr := if success then s.sd.lastErr else s.op.err
      state := dest }
    op := { s.op with valid := false }
    env := { s.env with cbQueue := some ⟨s.op.cb, s.op.ctx, success, s.op.done⟩ } }

/-- Step failure (R232): `first` is the first command of the failed step. -/
def initFail (first : InitStep) (e : Err) (s : State) : State :=
  let s := s.onSd fun d => { d with lastErr := e, retryCnt := d.retryCnt + 1 }
  if s.cfg.retryCeiling < s.sd.retryCnt then s.onSd fun d => { d with state := .failRetries }
  else s.onSd fun d => { d with initStep := first }

/-- Step success (R233). -/
def initOk (next : InitStep) (s : State) : State := s.onSd fun d => { d with retryCnt := 0, initStep := next }

/-- The card is unusable (R242, R244, R246). -/
def unusable (e : Err) (s : State) : State := s.onSd fun d => { d with lastErr := e, state := .unusable }

/-- The CSD read ends: the session closes and `OP_PHASE` goes back to `OP_NONE` (R243). -/
def endCsdRead (s : State) : State := s.onSd fun d => { d with session := false, opPhase := .none }

/-- The final block of a multi-block read or write, `OP_COUNT > 1` and `OP_IDX = OP_COUNT - 1` (R287). -/
def finalOfMany (o : Op) : Bool := decide (1 < o.count) && o.idx == o.count - 1

/-- `raise Error(e)` (R503): the first error is kept; what comes next depends on the phase that raised it. Every use returns
AGAIN. -/
def raise (e : Err) (s : State) : State :=
  if s.sd.state = .init then
    initFail .cmd9 e ((endCsdRead s).onSd fun d => { d with rxRetain := [], rxSkip := false })
  else
    let s := s.onOp fun o => { o with err := if o.err = .ok then e else o.err }
    let abortTo := fun (p : OpPhase) =>
      if s.op.count = 1 then finish false .ready s
      else s.onSd fun d => { d with opPhase := p, cmdPh := .idle }
    match s.sd.opPhase with
    | .rdToken => abortTo .rdAbort
    | .rdData =>
      if finalOfMany s.op then s.onSd fun d => { d with opPhase := .rdStop, tAnchor := s.env.now }
      else abortTo .rdAbort
    | .wrBusy => abortTo .wrAbort
    | .wrDresp => abortTo .wrAbort
    | .wrStopBusy => abortTo .wrAbort
    | .rdCmd => finish false .ready s
    | .wrCmd => finish false .ready s
    | .wrFinalBusy => finish false .ready s
    | .wrStopPostBusy => finish false .ready s
    | .wrStatus => finish false .ready s
    -- these phases raise no error (R503)
    | .none => s
    | .rdStop => s
    | .rdAbort => s
    | .wrSend => s
    | .wrStopToken => s
    | .wrAbort => s

/-! ## Admission of an operation (R311, R312) -/

/-- The phase an operation starts in (R311, R312). -/
def firstPhase : OpDir → OpPhase
  | .read => .rdCmd
  | .write => .wrCmd

/-- The SD state of an operation (R311, R312). -/
def opState : OpDir → SdState
  | .read => .read
  | .write => .write

/-- The preconditions of `read` and `write` (R115, R311): the sum is exact. -/
def admits (s : State) (addr count : U32) : Bool :=
  s.sd.state == .ready && count != 0 && decide (addr.toNat + count.toNat ≤ s.sd.capacity.toNat)

/-- The state after `read` or `write` is accepted (R311, R312). -/
def opStarted (dir : OpDir) (addr count : U32) (buf : Ptr) (cb : Cb) (ctx : U32) (s : State) : State :=
  (s.onOp fun o =>
    { o with valid := true, dir := dir, addr := addr, count := count, buf := buf, cb := cb, ctx := ctx,
             len := 512, idx := 0, done := 0, err := .ok }).onSd
    fun d => { d with state := opState dir, opPhase := firstPhase dir, cmdPh := .idle }

/-- `read` and `write` as a client calls them, the log engine among the clients (R311, R312, R470). -/
def startOp (dir : OpDir) (addr count : U32) (buf : Ptr) (cb : Cb) (ctx : U32) (s : State) : Err × State :=
  if admits s addr count then (.ok, opStarted dir addr count buf cb ctx s) else (.rejected, s)

end Sys2Proof.Machine
end

