-- ==== Sys2Proof/Machine/Codecs.lean ====
section
/-! DEFINITION. The partition-table, superblock and record-header codecs (43_codecs.md R340-R361) as functions on bytes, and
the meanings of host codes 0x30 to 0x41. A block or entry operand of a host call is a HOST address (log 16); the log engine
applies the same functions to SB_IMG (R48). -/

namespace Sys2Proof.Machine

/-! ## Partition table (R150, R340-R347) -/

/-- Offset of entry `n` (R150). -/
def mbrEntryOffset (n : Nat) : Nat := 446 + 16 * n

/-- `mbr_is_valid(block)` (R340). -/
def mbrValid (block : List Byte) : Bool := byteAt block 510 == 0x55 && byteAt block 511 == 0xAA

/-- Entry `n` of a block (R341). -/
def mbrEntry (block : List Byte) (n : Nat) : List Byte := (block.drop (mbrEntryOffset n)).take 16

/-- `mbr_entry_is_valid(entry)` (R342). -/
def entryValid (entry : List Byte) : Bool := byteAt entry 4 != 0x00

/-- `mbr_entry_type(entry)` (R343). -/
def entryType (entry : List Byte) : Byte := byteAt entry 4

/-- `mbr_entry_start_lba(entry)` (R344). -/
def entryStartLba (entry : List Byte) : U32 := le32 entry 8

/-- `mbr_entry_length(entry)` (R345). -/
def entryLength (entry : List Byte) : U32 := le32 entry 12

/-- The 512 bytes `mbr_init_table` writes (R346). -/
def mbrTableBytes : List Byte := List.replicate 510 0 ++ [0x55, 0xAA]

/-- The 16 bytes `mbr_init_entry` writes (R347). -/
def mbrEntryBytes (type : Byte) (start length : U32) : List Byte :=
  [0, 0, 0, 0, type, 0, 0, 0] ++ le32Bytes start ++ le32Bytes length

/-! ## Superblock (R151, R152, R350-R357) -/

/-- `sb_is_valid(block)` (R350): both magic copies. -/
def sbValid (block : List Byte) : Bool :=
  block.take 8 == Config.sbMagic && (block.drop 504).take 8 == Config.sbMagic

/-- `sb_version(block)` (R351). -/
def sbVersionOf (block : List Byte) : Byte := byteAt block 8

/-- `sb_continued(block)` (R352). -/
def sbContinuedOf (block : List Byte) : Bool := (byteAt block 9).getLsbD 0

/-- `sb_partition_length(block)` (R353). -/
def sbPartLen (block : List Byte) : U32 := le32 block 12

/-- Offset of flight record `i` (R152). -/
def flightOffset (i : Nat) : Nat := 96 + 12 * i

/-- The 12 bytes of a flight record (R152, R355). -/
def flightBytes (first num ts : U32) : List Byte := le32Bytes first ++ le32Bytes num ++ le32Bytes ts

/-- Flight record `i`: `first_block`, `num_blocks`, `timestamp` (R354). -/
def flightGet (block : List Byte) (i : Nat) : U32 × U32 × U32 :=
  (le32 block (flightOffset i), le32 block (flightOffset i + 4), le32 block (flightOffset i + 8))

/-- The lowest free slot at or above `i`, among `n` slots (R356). -/
def firstFreeFrom (block : List Byte) (i : Nat) : Nat → Option Nat
  | 0 => none
  | n + 1 => if le32 block (flightOffset i) = 0 then some i else firstFreeFrom block (i + 1) n

/-- `sb_flight_slot_for(block, continue)` (R356); `none` is `no_free_slot`. -/
def flightSlotFor (block : List Byte) (cont : Bool) : Option (Nat × FlightKind) :=
  match firstFreeFrom block 0 Config.nFlights with
  | none => if cont then some (31, .continued) else none
  | some f => if cont && f != 0 then some (f - 1, .continued) else some (f, .fresh)

/-- The 512 bytes `sb_init` writes (R357). -/
def sbInitBytes (version : Byte) (partLen : U32) : List Byte :=
  Config.sbMagic ++ [version, 0, 0, 0] ++ le32Bytes partLen ++ List.replicate 488 0 ++ Config.sbMagic

/-! ## Record header (R153, R360, R361) -/

/-- `hdr_encode(class, type, length)` (R360); higher bits of `class` and `type` are dropped. -/
def hdrBytes (cls type length : U16) : List Byte :=
  [type.extractLsb' 0 2 ++ cls.extractLsb' 0 6, type.extractLsb' 2 8, byteOf length 0, byteOf length 1]

/-- `class` of `hdr_decode` (R361). -/
def hdrClass (b0 : Byte) : BitVec 6 := b0.extractLsb' 0 6

/-- `type` of `hdr_decode` (R361). -/
def hdrType (b0 b1 : Byte) : BitVec 10 := b1 ++ b0.extractLsb' 6 2

/-! ## Meanings -/

/-- Read the operand bytes at a HOST address and return a value of them; nothing else changes. -/
def hostQuery (addr : HostAddr) (n : Nat) (f : List Byte → Ret) (s : State) : Except Stop State := do
  let b ← readBytes s .host addr.toNat n
  .ok (putRet (f b) s)

/-- Store bytes at an offset of a block at a HOST address and return a value. A block not wholly in HOST faults (log 16). -/
def hostStore (addr : HostAddr) (off : Nat) (bytes : List Byte) (r : Ret) (s : State) : Except Stop State :=
  if inSpace s.cfg .host addr.toNat 512 then .ok (putRet r (s.poke .host (addr.toNat + off) bytes))
  else .error (.fault (.address .host (max addr.toNat (spaceSize s.cfg .host))))

/-- `mbr_is_valid(block)` (R340). -/
def execMbrIsValid (block : HostAddr) (s : State) : Host.Outcome State Fault Refusal :=
  toOutcome (hostQuery block 512 (fun b => .bool (mbrValid b)) s)

/-- `mbr_get_entry(block, n)` (R341): the view's address and its 16 bytes (log 16). -/
def execMbrGetEntry (block : HostAddr) (n : U32) (s : State) : Host.Outcome State Fault Refusal :=
  if 3 < n.toNat then .next (putCode .rejected s)
  else toOutcome (hostQuery block 512
    (fun b => .view (block.toNat + mbrEntryOffset n.toNat) (mbrEntry b n.toNat)) s)

/-- `mbr_entry_is_valid(entry)` (R342). -/
def execMbrEntryIsValid (entry : HostAddr) (s : State) : Host.Outcome State Fault Refusal :=
  toOutcome (hostQuery entry 16 (fun b => .bool (entryValid b)) s)

/-- `mbr_entry_type(entry)` (R343). -/
def execMbrEntryType (entry : HostAddr) (s : State) : Host.Outcome State Fault Refusal :=
  toOutcome (hostQuery entry 16 (fun b => .byte (entryType b)) s)

/-- `mbr_entry_start_lba(entry)` (R344). -/
def execMbrEntryStartLba (entry : HostAddr) (s : State) : Host.Outcome State Fault Refusal :=
  toOutcome (hostQuery entry 16 (fun b => .word (entryStartLba b)) s)

/-- `mbr_entry_length(entry)` (R345). -/
def execMbrEntryLength (entry : HostAddr) (s : State) : Host.Outcome State Fault Refusal :=
  toOutcome (hostQuery entry 16 (fun b => .word (entryLength b)) s)

/-- `mbr_init_table(block)` (R346); nothing is returned. -/
def execMbrInitTable (block : HostAddr) (s : State) : Host.Outcome State Fault Refusal :=
  toOutcome (hostStore block 0 mbrTableBytes .none s)

/-- `mbr_init_entry(block, n, type, start, length)` (R347). -/
def execMbrInitEntry (block : HostAddr) (n : U32) (type : Byte) (start length : U32) (s : State) : Host.Outcome State Fault Refusal :=
  if 3 < n.toNat then .next (putCode .rejected s)
  else toOutcome (hostStore block (mbrEntryOffset n.toNat) (mbrEntryBytes type start length) (.code .ok) s)

/-- `sb_is_valid(block)` (R350). -/
def execSbIsValid (block : HostAddr) (s : State) : Host.Outcome State Fault Refusal :=
  toOutcome (hostQuery block 512 (fun b => .bool (sbValid b)) s)

/-- `sb_version(block)` (R351). -/
def execSbVersion (block : HostAddr) (s : State) : Host.Outcome State Fault Refusal :=
  toOutcome (hostQuery block 512 (fun b => .byte (sbVersionOf b)) s)

/-- `sb_continued(block)` (R352). -/
def execSbContinued (block : HostAddr) (s : State) : Host.Outcome State Fault Refusal :=
  toOutcome (hostQuery block 512 (fun b => .bool (sbContinuedOf b)) s)

/-- `sb_partition_length(block)` (R353). -/
def execSbPartitionLength (block : HostAddr) (s : State) : Host.Outcome State Fault Refusal :=
  toOutcome (hostQuery block 512 (fun b => .word (sbPartLen b)) s)

/-- `sb_flight_get(block, i)` (R354). -/
def execSbFlightGet (block : HostAddr) (i : U32) (s : State) : Host.Outcome State Fault Refusal :=
  if 31 < i.toNat then .next (putCode .rejected s)
  else toOutcome (hostQuery block 512
    (fun b => .flight (flightGet b i.toNat).1 (flightGet b i.toNat).2.1 (flightGet b i.toNat).2.2) s)

/-- `sb_flight_set(block, i, first, num, ts)` (R355). -/
def execSbFlightSet (block : HostAddr) (i first num ts : U32) (s : State) : Host.Outcome State Fault Refusal :=
  if 31 < i.toNat then .next (putCode .rejected s)
  else toOutcome (hostStore block (flightOffset i.toNat) (flightBytes first num ts) (.code .ok) s)

/-- What `sb_flight_slot_for` returns (R356). -/
def slotRet : Option (Nat × FlightKind) → Ret
  | none => .code .noFreeSlot
  | some (i, kind) => .slot i kind.code

/-- `sb_flight_slot_for(block, continue)` (R356). -/
def execSbFlightSlotFor (block : HostAddr) (cont : Bool) (s : State) : Host.Outcome State Fault Refusal :=
  toOutcome (hostQuery block 512 (fun b => slotRet (flightSlotFor b cont)) s)

/-- `sb_init(block, part_len)` (R357); nothing is returned. -/
def execSbInit (block : HostAddr) (partLen : U32) (s : State) : Host.Outcome State Fault Refusal :=
  toOutcome (hostStore block 0 (sbInitBytes s.cfg.sbVersion partLen) .none s)

/-- `hdr_encode(class, type, length)` (R360). -/
def execHdrEncode (cls type length : U16) (s : State) : Host.Outcome State Fault Refusal :=
  .next (putRet (.bytes (hdrBytes cls type length)) s)

/-- `hdr_decode(b[0..3])` (R361). -/
def execHdrDecode (b0 b1 b2 b3 : Byte) (s : State) : Host.Outcome State Fault Refusal :=
  .next (putRet (.header (hdrClass b0) (hdrType b0 b1) (pack16 b3 b2)) s)

end Sys2Proof.Machine
end

