-- ==== Sys2Proof/Machine/CommandLayer.lean ====
section
/-! DEFINITION. The meanings of host codes 0x20 to 0x25: the command/CRC layer (40_crc_command.md R200-R207) and
`csd_capacity` (41_card_init.md R249). A byte sequence operand is a HOST address and a length (log 5). -/

namespace Sys2Proof.Machine

/-- The scan of R206 from position `k`: the first byte with bit 7 = 0. -/
def findResponse : Nat → List Byte → Option Nat
  | _, [] => none
  | k, b :: rest => if isResponse b then some k else findResponse (k + 1) rest

/-- `parse_response(window, expected_len)` (R206); other values of `expected_len` use the same formula (log 24). -/
def parseResponseOf (window : List Byte) (expectedLen : Byte) : Ret :=
  match findResponse 0 window with
  | some k => .found k (decide (k + expectedLen.toNat ≤ window.length))
  | none => .notFound

/-- `crc7(bytes)` (R200). -/
def execCrc7 (data : HostAddr) (len : U32) (s : State) : Host.Outcome State Fault Refusal :=
  toOutcome (hostQuery data len.toNat (fun b => .byte ((0#1) ++ crc7Bytes b)) s)

/-- `crc16_update(crc, byte)` (R203). -/
def execCrc16Update (crc : U16) (byte : Byte) (s : State) : Host.Outcome State Fault Refusal :=
  .next (putRet (.half (crc16UpdateByte crc byte)) s)

/-- `crc16(bytes)` (R204). -/
def execCrc16 (data : HostAddr) (len : U32) (s : State) : Host.Outcome State Fault Refusal :=
  toOutcome (hostQuery data len.toNat (fun b => .half (crc16Bytes b)) s)

/-- `build_command(index, argument)` (R205): the low 6 bits of the index are used. -/
def execBuildCommand (index argument : U32) (s : State) : Host.Outcome State Fault Refusal :=
  .next (putRet (.bytes (buildCommandBytes (index.extractLsb' 0 6) argument)) s)

/-- `parse_response(window, expected_len)` (R206). -/
def execParseResponse (window : HostAddr) (len : U32) (expectedLen : Byte) (s : State) : Host.Outcome State Fault Refusal :=
  toOutcome (hostQuery window len.toNat (fun b => parseResponseOf b expectedLen) s)

/-- What `csd_capacity` returns (R249). -/
def capacityRet : Option U32 → Ret
  | some c => .word c
  | none => .invalid

/-- `csd_capacity(csd)` (R249). -/
def execCsdCapacity (csd : HostAddr) (s : State) : Host.Outcome State Fault Refusal :=
  toOutcome (hostQuery csd 16 (fun b => capacityRet (csdCapacityOf b)) s)

end Sys2Proof.Machine
end

