-- ==== Sys2Proof/Machine/Reservation.lean ====
section
/-! DEFINITION. Concurrent buffer reservation and the producers (45_reservation.md R430-R443), atomic step by atomic step
(R104), with irq calls arriving at main's atomic steps (R430, R468; log 11). -/

namespace Sys2Proof.Machine

/-- What may happen at an atomic step before it is made: irq calls (R468), or nothing. -/
abbrev Hook := State → Except Stop State

/-- Irq context is never preempted (R430, R468). -/
def noPreempt : Hook := fun s => .ok s

/-! ## The atomic primitives on the shared fields (R104) -/

/-- `fetch_add(BUF[i].CHECKOUTS, 1)`. -/
def addCheckout (i : Nat) (s : State) : State := s.onSh fun x => x.setBuf i fun b => { b with checkouts := b.checkouts + 1 }

/-- `fetch_sub(BUF[i].CHECKOUTS, 1)`. -/
def subCheckout (i : Nat) (s : State) : State := s.onSh fun x => x.setBuf i fun b => { b with checkouts := b.checkouts - 1 }

/-- `fetch_add(BUF[i].COUNT, n)`. -/
def addCount (i : Nat) (n : U32) (s : State) : State := s.onSh fun x => x.setBuf i fun b => { b with count := b.count + n }

/-- `atomic_store(BUF[i].COUNT, n)`. -/
def storeCount (i : Nat) (n : U32) (s : State) : State := s.onSh fun x => x.setBuf i fun b => { b with count := n }

/-- `atomic_store(BUF[i].PENDING, v)`. -/
def storePending (i : Nat) (v : Bool) (s : State) : State := s.onSh fun x => x.setBuf i fun b => { b with pending := v }

/-- `atomic_store(IP, w)`, also the write of a CAS that succeeds. -/
def storeIp (w : U32) (s : State) : State := s.onSh fun x => { x with ip := w }

/-- `fetch_add(MISSED, 1)`. -/
def addMissed (s : State) : State := s.onSh fun x => { x with missed := x.missed + 1 }

/-! ## `checkout` (R431) -/

/-- What `checkout` returns. -/
inductive Grant where
  | handle (h : U32)
  | refused (e : Err)
deriving DecidableEq, Repr

/-- The value a grant returns to the caller (R158, R431). -/
def Grant.ret : Grant → Ret
  | .handle h => .word h
  | .refused e => .code e

/-- The buffers a switch may go to, in order (R431 step 5, D44). -/
def candidates (v : Bool) (i : Nat) : List Nat :=
  if v then [(i + 1) % Config.nBuf] else [(i + 1) % Config.nBuf, i]

/-- Step 6: the first candidate whose `COUNT` is 0, one load per candidate. -/
def firstEmpty (pre : Hook) : List Nat → State → Except Stop (Option Nat × State)
  | [], s => .ok (none, s)
  | k :: rest, s => do
    let s ← pre s
    if (s.sh.buf k).count = 0 then .ok (some k, s) else firstEmpty pre rest s

/-- Steps 9 and 10: mark the vacated buffer pending if it holds bytes. -/
def vacate (pre : Hook) (v : Bool) (i : Nat) (s : State) : Except Stop State := do
  if v then
    let s ← pre s
    if (s.sh.buf i).count = 0 then .ok s
    else
      let s ← pre s
      .ok (storePending i true s)
  else .ok s

/-- The loop of R431 from step 2 on: `old` is the last insertion-point word observed. The first argument bounds the rounds
(log 20). R433 and R442 derive disjoint grants, and R57 derives `COUNT <= LOG_BUF_CAP`, for every interleaving; R431's own steps
break both where two irq reservations come between steps 3 and 4 and switch away and back, while the count is still 0. No model
of R430 and R431 has R57's bound there; this one keeps the steps (DEDUCED, log 33). -/
def checkoutLoop (pre : Hook) (len : Nat) : Nat → U32 → State → Except Stop (Grant × State)
  | 0, _, _ => .error (.fault .checkoutBound)
  | fuel + 1, old, s => do
    if !ipWellFormed old then .error (.fault (.insertionPoint old))
    else if ipValid old && decide (ipOff old + len ≤ s.cfg.logBufCap) then
      let s ← pre s
      let s := addCheckout (ipIdx old) s                                    -- step 2
      let s ← pre s
      if s.sh.ip = old then                                                 -- step 3
        let s := storeIp (mkIp true (ipIdx old) (ipOff old + len)) s
        let s ← pre s
        let s := addCount (ipIdx old) (BitVec.ofNat 32 len) s               -- step 4
        .ok (.handle (handleOf s.cfg.logBufCap (ipIdx old) (ipOff old)), s)
      else
        let seen := s.sh.ip
        let s ← pre s
        checkoutLoop pre len fuel seen (subCheckout (ipIdx old) s)          -- step 5
    else
      let (j, s) ← firstEmpty pre (candidates (ipValid old) (ipIdx old)) s  -- step 6
      match j with
      | none =>
        let s ← pre s
        .ok (.refused .outOfSpace, addMissed s)                             -- step 7
      | some j =>
        let s ← pre s
        if s.sh.ip = old then                                               -- step 8
          let s := storeIp (mkIp true j 0) s
          let s ← vacate pre (ipValid old) (ipIdx old) s                    -- steps 9 and 10
          checkoutLoop pre len fuel (mkIp true j 0) s
        else checkoutLoop pre len fuel s.sh.ip s

/-- `checkout(len)` (R431): the argument check comes first (R508), then step 1 and the loop. Each batch of irq calls that
arrives fails at most one CAS of main, so the bound is never reached (R443; log 20). -/
def checkoutWith (pre : Hook) (len : Nat) (s : State) : Except Stop (Grant × State) := do
  if len = 0 ∨ s.cfg.logBufCap < len then .ok (.refused .rejected, s)
  else
    let s ← pre s
    checkoutLoop pre len (2 * s.env.irqs.length + 4) s.sh.ip s

/-! ## `checkin`, `log`, `log_gather` (R434, R436, R437) -/

/-- `checkin(h)` (R434). -/
def checkinWith (pre : Hook) (h : Nat) (s : State) : Except Stop (Err × State) := do
  if Config.nBuf * s.cfg.logBufCap ≤ h then .ok (.rejected, s)
  else
    let s ← pre s
    if (s.sh.buf (h / s.cfg.logBufCap)).checkouts = 0 then .ok (.rejected, s)
    else .ok (.ok, subCheckout (h / s.cfg.logBufCap) s)

/-- The pairs `(addr_s, len_s)` of a `log_gather` array: twelve bytes each, a HOST address and a length, little-endian (log 15). -/
def segmentsOf : List Byte → List (HostAddr × U32)
  | a0 :: a1 :: a2 :: a3 :: a4 :: a5 :: a6 :: a7 :: n0 :: n1 :: n2 :: n3 :: rest =>
    (pack64 a7 a6 a5 a4 a3 a2 a1 a0, pack32 n3 n2 n1 n0) :: segmentsOf rest
  | _ => []

/-- The exact total of the segments' lengths (R437, D75). -/
def segmentsTotal : List (HostAddr × U32) → Nat
  | [] => 0
  | (_, n) :: rest => n.toNat + segmentsTotal rest

/-- Copy segments from HOST to LOGBUF `p`, one after another (R436, R437). -/
def copySegments (p : Nat) : List (HostAddr × U32) → State → Except Stop State
  | [], s => .ok s
  | (a, n) :: rest, s => do
    let b ← readBytes s .host a.toNat n.toNat
    let s ← writeBytes s .logbuf p b
    copySegments (p + n.toNat) rest s

/-- Reserve `total` bytes, copy the segments into them, check in (R436, R437). -/
def appendRecord (pre : Hook) (total : Nat) (segs : List (HostAddr × U32)) (s : State) : Except Stop (Err × State) := do
  let (g, s) ← checkoutWith pre total s
  match g with
  | .refused e => .ok (e, s)
  | .handle h =>
    let s ← copySegments h.toNat segs s
    let (_, s) ← checkinWith pre h.toNat s
    .ok (.ok, s)

/-- `log(data, len)` (R436); `data` is a HOST address (log 5, 32). -/
def logWith (pre : Hook) (data : HostAddr) (len : U32) (s : State) : Except Stop (Err × State) :=
  appendRecord pre len.toNat [(data, len)] s

/-- `log_gather(segments, count)` (R437); `segments` is the HOST address of the array (log 5, 15, 32). -/
def logGatherWith (pre : Hook) (segments : HostAddr) (count : U32) (s : State) : Except Stop (Err × State) := do
  if count = 0 then .ok (.rejected, s)
  else
    let b ← readBytes s .host segments.toNat (12 * count.toNat)
    let segs := segmentsOf b
    if segmentsTotal segs = 0 ∨ s.cfg.logBufCap < segmentsTotal segs then .ok (.rejected, s)
    else appendRecord pre (segmentsTotal segs) segs s

/-! ## The producers with their returned values -/

/-- `checkout` with its returned value. -/
def doCheckout (pre : Hook) (len : U32) (s : State) : Except Stop State := do
  let (g, s) ← checkoutWith pre len.toNat s
  .ok (putRet g.ret s)

/-- `checkin` with its returned value. -/
def doCheckin (pre : Hook) (h : U32) (s : State) : Except Stop State := do
  let (e, s) ← checkinWith pre h.toNat s
  .ok (putCode e s)

/-- `log` with its returned value. -/
def doLog (pre : Hook) (data : HostAddr) (len : U32) (s : State) : Except Stop State := do
  let (e, s) ← logWith pre data len s
  .ok (putCode e s)

/-- `log_gather` with its returned value. -/
def doLogGather (pre : Hook) (segments : HostAddr) (count : U32) (s : State) : Except Stop State := do
  let (e, s) ← logGatherWith pre segments count s
  .ok (putCode e s)

/-- `flight_blocks` (R440): one u32 read of `FL_NUM`, 0 while no flight is selected (R49, R59). -/
def doFlightBlocks (s : State) : Except Stop State := .ok (putRet (.word (if s.lg.flightValid then s.lg.flNum else 0)) s)

/-- `missed_checkouts` (R441): one atomic load. -/
def doMissedCheckouts (pre : Hook) (s : State) : Except Stop State := do
  let s ← pre s
  .ok (putRet (.word s.sh.missed) s)

/-! ## Irq arrivals (R430, R468) -/

/-- The operations irq context may call (R468). -/
def isProducer : Instr → Bool
  | .checkout _ => true
  | .checkin _ => true
  | .log _ _ => true
  | .logGather _ _ => true
  | .flightBlocks => true
  | .missedCheckouts => true
  | _ => false

/-- One irq call, run to completion (R430). Any other operation is context misuse (R565). -/
def irqCall (i : Instr) (s : State) : Except Stop State :=
  match i with
  | .checkout len => doCheckout noPreempt len s
  | .checkin h => doCheckin noPreempt h s
  | .log data len => doLog noPreempt data len s
  | .logGather segments count => doLogGather noPreempt segments count s
  | .flightBlocks => doFlightBlocks s
  | .missedCheckouts => doMissedCheckouts noPreempt s
  | _ => .error (.refused .contextMisuse)

/-- Irq calls, one after another; they do not nest (R430). -/
def irqCalls : List Instr → State → Except Stop State
  | [], s => .ok s
  | i :: rest, s => do
    let s ← irqCall i s
    irqCalls rest s

/-- An atomic step of main outside the critical section: the next batch of arrivals runs to completion before it (R468; log
11). In irq context and inside the critical section nothing arrives. -/
def preemptPoint : Hook := fun s =>
  match s.env.ctx, s.env.critical, s.env.irqs with
  | .main, false, batch :: rest => do
    let s ← irqCalls batch (s.onEnv fun e => { e with irqs := rest, ctx := .irq })
    .ok (s.onEnv fun e => { e with ctx := .main })
  | _, _, _ => .ok s

/-! ## Meanings -/

/-- `checkout(len)` (R431). -/
def execCheckout (len : U32) (s : State) : Host.Outcome State Fault Refusal := toOutcome (doCheckout preemptPoint len s)

/-- `checkin(h)` (R434). -/
def execCheckin (handle : U32) (s : State) : Host.Outcome State Fault Refusal := toOutcome (doCheckin preemptPoint handle s)

/-- `log(data, len)` (R436). -/
def execLog (data : HostAddr) (len : U32) (s : State) : Host.Outcome State Fault Refusal := toOutcome (doLog preemptPoint data len s)

/-- `log_gather(segments, count)` (R437). -/
def execLogGather (segments : HostAddr) (count : U32) (s : State) : Host.Outcome State Fault Refusal :=
  toOutcome (doLogGather preemptPoint segments count s)

/-- `flight_blocks()` (R440). -/
def execFlightBlocks (s : State) : Host.Outcome State Fault Refusal := toOutcome (doFlightBlocks s)

/-- `missed_checkouts()` (R441). -/
def execMissedCheckouts (s : State) : Host.Outcome State Fault Refusal := toOutcome (doMissedCheckouts preemptPoint s)

end Sys2Proof.Machine
end

