-- ==== Sys2Proof/Machine/BlockIo.lean ====
section
/-! DEFINITION. The block read and write sequencers (42_block_io.md R284-R301): one definition per phase, each one handler
run (R271, R277). -/

namespace Sys2Proof.Machine

/-! ## Receiving a block (R276, R286, R287) -/

/-- The HOST, LOGBUF or SBIMG address of byte `k` of the current block (R92): `OP_IDX*512` is a u32 product and wraps (R15), the
sum with the address is exact (log 14). -/
def blockAddress (o : Op) (k : Nat) : Nat := o.buf.addr.toNat + (o.idx * 512).toNat + k

/-- `take(b)` (R286): store the payload byte, run the CRC, count. But for the CSD read, `OP_*` is read only while `OP_VALID = 1`
(R42, R63; log 17). -/
def takeByte (b : Byte) (s : State) : Except Stop State := do
  let k := s.op.byte.toNat
  let s ←
    if s.sd.initStep = .csd ∧ s.sd.state = .init then
      .ok (if k < s.op.len.toNat then s.onSd fun d => { d with csdBuf := d.csdBuf.setIfInBounds k b } else s)
    else if !s.op.valid then .error (.fault .meaninglessRead)
    else if k < s.op.len.toNat then writeBytes s s.op.buf.space (blockAddress s.op k) [b]
    else .ok s
  .ok (s.onOp fun o => { o with crc := crc16UpdateByte o.crc b, byte := o.byte + 1 })

/-- `take` of in-bytes in order. -/
def takeBytes : List Byte → State → Except Stop State
  | [], s => .ok s
  | b :: rest, s => do
    let s ← takeByte b s
    takeBytes rest s

/-- The in-bytes the current block still needs (R286). -/
def blockNeed (o : Op) : Nat := o.len.toNat + 2 - o.byte.toNat

/-- The CMD12 frame `4C 00 00 00 00 61` (R287). -/
def stopFrame : List Byte := buildCommandBytes 12 0

/-- Deliver a completed transaction (R278), `Clear()` it (R462), and restart the anchor unless it was a search. `Clear()`
acknowledges the completion: `Done()` stays 1 until the next accepted `Submit` (R462). -/
def deliver (s : State) : Except Stop State := do
  let s ←
    match s.sd.xferRole with
    | .search => .ok (s.onSd fun d => { d with rxRetain := d.rxRetain ++ s.env.inBytes })
    | .echo => .ok s
    | .payload => takeBytes s.env.inBytes s
    | .payloadStop => takeBytes s.env.inBytes s
  .ok (s.onSd fun d =>
    { d with xferPending := false, tAnchor := if d.xferRole = .search then d.tAnchor else s.env.now })

/-! ## Read phases -/

/-- `RD_CMD` and `WR_CMD` (R285, R290): issue the operation's command, `single` for one block and `multi` for more (D32),
and test its R1; `accepted` is what acceptance does. -/
def opCommandPhase (single multi : BitVec 6) (accepted : State → State) (s : State) : Ctl × State :=
  match s.sd.cmdPh with
  | .idle =>
    (.again, startCmd (if s.op.count = 1 then single else multi) (cardArg s.sd.blockAddr s.op.addr) .r1 true s)
  | .done =>
    let s := s.onSd fun d => { d with cmdPh := .idle }
    match s.sd.cmdOut with
    | .timeout => (.again, raise .cmdTimeout s)
    | .busyTimeout => (.again, raise .busyTimeout s)
    | .ok => if respByte s 0 = 0 then (.again, accepted s) else (.again, raise .r1Error s)
  | .opening => cmdStep s
  | .busy => cmdStep s
  | .marshal => cmdStep s
  | .send => cmdStep s
  | .resp => cmdStep s

/-- `RD_CMD` (R285). -/
def rdCmd (s : State) : Ctl × State :=
  opCommandPhase 17 18
    (fun s => (s.onOp fun o => { o with idx := 0 }).onSd fun d => { d with opPhase := .rdToken, tAnchor := s.env.now }) s

/-- `WR_CMD` (R290). -/
def wrCmd (s : State) : Ctl × State :=
  opCommandPhase 24 25
    (fun s => (s.onOp fun o => { o with idx := 0 }).onSd fun d => { d with opPhase := .wrSend }) s

/-- `RD_TOKEN` (R284): the start-token search. -/
def rdToken (s : State) : Ctl × State :=
  match searchStep isReadToken s.cfg.busyTimeoutMs s with
  | (.found b, s) =>
    if b = Config.tokStart then
      (.again, (s.onOp fun o => { o with byte := 0, crc := 0 }).onSd fun d => { d with opPhase := .rdData })
    else (.again, raise (dataErrorClass b) s)
  | (.timeout, s) => (.again, raise .readTokenTimeout s)
  | (.wait, s) => (.yield, s)

/-- CSD decode (R244, R249, R250) after its data was received and its session closed (R243). -/
def csdDecode (s : State) : State :=
  match csdCapacityOf s.sd.csdBuf.toList with
  | some c => initOk .cmd16 (s.onSd fun d => { d with capacity := capCapacity d.blockAddr c })
  | none => unusable .csdVersion s

/-- What follows a block received whole with a good CRC (R286, R243). -/
def blockReceived (s : State) : State :=
  if s.sd.state = .init then csdDecode (endCsdRead s)
  else
    let s := s.onOp fun o => { o with done := o.idx + 1 }
    if s.op.idx + 1 < s.op.count then
      (s.onOp fun o => { o with idx := o.idx + 1 }).onSd fun d => { d with opPhase := .rdToken, tAnchor := s.env.now }
    else if s.op.count = 1 then finish true .ready s
    else s.onSd fun d => { d with opPhase := .rdStop, tAnchor := s.env.now }

/-- The out-bytes of a receive (R276, R287): fill, the last six replaced by CMD12's frame for the final block of a
multi-block read. R287 gives `need >= 507` there; a smaller `need`, which no rule reaches, keeps the frame's tail. -/
def receiveOut (overlap : Bool) (need : Nat) : List Byte :=
  if overlap then List.replicate (need - 6) Config.fill ++ stopFrame.drop (6 - need)
  else List.replicate need Config.fill

/-- `RD_DATA` (R286, R287): take the retained bytes, then receive the rest by one transaction. -/
def rdData (s : State) : Except Stop (Ctl × State) := do
  let need := blockNeed s.op
  let now := s.sd.rxRetain.take need
  let s ← takeBytes now (s.onSd fun d => { d with rxRetain := d.rxRetain.drop need })
  let left := need - now.length
  if left = 0 then
    if s.cfg.useCrc && s.op.crc != 0 then .ok (.again, raise .readCrc s)
    else .ok (.again, blockReceived s)
  else
    let overlap := s.sd.state == .read && finalOfMany s.op
    match submit (receiveOut overlap left) (if overlap then .payloadStop else .payload) s with
    | none => .ok (.yield, s)
    | some s => .ok (.yield, if overlap then s.onSd fun d => { d with rxSkip := true } else s)

/-- `RD_STOP` (R288): consume the CMD12 response; its value is not examined. -/
def rdStop (s : State) : Ctl × State :=
  match searchStep isResponse s.cfg.cmdTimeoutMs s with
  | (.found _, s) => (.again, finish (s.op.err == .ok) .ready s)
  | (.timeout, s) => (.again, finish false .ready (s.onOp fun o => { o with err := if o.err = .ok then .cmdTimeout else o.err }))
  | (.wait, s) => (.yield, s)

/-- `RD_ABORT` and `WR_ABORT` (R289, R301): CMD12, then finish failed whatever its outcome. -/
def abortPhase (s : State) : Ctl × State :=
  match s.sd.cmdPh with
  | .idle => (.again, startCmd 12 0 .r1b false s)
  | .done => (.again, finish false .ready (s.onSd fun d => { d with cmdPh := .idle }))
  | .opening => cmdStep s
  | .busy => cmdStep s
  | .marshal => cmdStep s
  | .send => cmdStep s
  | .resp => cmdStep s

/-! ## Write phases -/

/-- A busy-poll of a write (R291, R296, R297, R299); `next` is what `FOUND` does. -/
def writeBusy (next : State → State) (s : State) : Ctl × State :=
  match searchStep isReady s.cfg.busyTimeoutMs s with
  | (.found _, s) => (.again, next s)
  | (.timeout, s) => (.again, raise .writeBusyTimeout s)
  | (.wait, s) => (.yield, s)

/-- `WR_BUSY` (R291). -/
def wrBusy (s : State) : Ctl × State := writeBusy (fun s => s.onSd fun d => { d with opPhase := .wrSend }) s

/-- The start token of a write packet (R140, R293). -/
def writeTokenByte (o : Op) : Byte := if o.count = 1 then Config.tokStart else Config.tokStartMulti

/-- The CRC-16 of a written block (R294). -/
def writtenCrc (useCrc : Bool) (payload : List Byte) : U16 := if useCrc then crc16Bytes payload else 0

/-- The 516 bytes of a data packet with its gap byte (R143, R293). -/
def dataPacket (useCrc : Bool) (token : Byte) (payload : List Byte) : List Byte :=
  [Config.fill, token] ++ payload ++ be16Bytes (writtenCrc useCrc payload)

/-- The bytes of a block to write have a meaning (R63; log 17): in LOGBUF they lie below the `COUNT` of their buffer, in SB_IMG a
flight is selected; in HOST they are the caller's. -/
def sourceMeaningful (s : State) : Bool :=
  match s.op.buf.space with
  | .host => true
  | .sbimg => s.lg.flightValid
  | .logbuf =>
    let a := blockAddress s.op 0
    decide (a % s.cfg.logBufCap + 512 ≤ (s.sh.buf (a / s.cfg.logBufCap)).count.toNat)

/-- `WR_SEND` (R293): the payload is read when the transaction is prepared. -/
def wrSend (s : State) : Except Stop (Ctl × State) := do
  if !sourceMeaningful s then .error (.fault .meaninglessRead)
  else
  let payload ← readBytes s s.op.buf.space (blockAddress s.op 0) 512
  .ok (.yield, transmit (dataPacket s.cfg.useCrc (writeTokenByte s.op) payload)
    (fun s => s.onSd fun d => { d with opPhase := .wrDresp, tAnchor := s.env.now }) s)

/-- What an accepted block leads to (R295). -/
def blockAccepted (s : State) : State :=
  let s := s.onOp fun o => { o with done := o.idx + 1 }
  let phase : OpPhase :=
    if s.op.idx + 1 < s.op.count then .wrBusy
    else if s.op.count = 1 then .wrFinalBusy
    else .wrStopBusy
  let s := if s.op.idx + 1 < s.op.count then s.onOp fun o => { o with idx := o.idx + 1 } else s
  s.onSd fun d => { d with opPhase := phase, tAnchor := s.env.now }

/-- `WR_DRESP` (R295): the data-response search. -/
def wrDresp (s : State) : Ctl × State :=
  match searchStep isDataResponse s.cfg.cmdTimeoutMs s with
  | (.found b, s) =>
    if dataResponseStatus b = 0b010 then (.again, blockAccepted s)
    else if dataResponseStatus b = 0b101 then (.again, raise .dataCrc s)
    else if dataResponseStatus b = 0b110 then (.again, raise .writeError s)
    else (.again, raise .dataRespOther s)
  | (.timeout, s) => (.again, raise .writeRespTimeout s)
  | (.wait, s) => (.yield, s)

/-- `WR_FINAL_BUSY` (R296). -/
def wrFinalBusy (s : State) : Ctl × State := writeBusy (finish true .ready) s

/-- `WR_STOP_BUSY` (R297). -/
def wrStopBusy (s : State) : Ctl × State := writeBusy (fun s => s.onSd fun d => { d with opPhase := .wrStopToken }) s

/-- `WR_STOP_TOKEN` (R298). -/
def wrStopToken (s : State) : Ctl × State :=
  (.yield, transmit [Config.tokStop, Config.fill]
    (fun s => s.onSd fun d => { d with opPhase := .wrStopPostBusy, tAnchor := s.env.now }) s)

/-- `WR_STOP_POST_BUSY` (R299). -/
def wrStopPostBusy (s : State) : Ctl × State :=
  writeBusy (fun s => s.onSd fun d => { d with opPhase := .wrStatus, cmdPh := .idle }) s

/-- `WR_STATUS` (R300): CMD13 and its two bytes. -/
def wrStatus (s : State) : Ctl × State :=
  match s.sd.cmdPh with
  | .idle => (.again, startCmd 13 0 .r2 false s)
  | .done =>
    let s := s.onSd fun d => { d with cmdPh := .idle }
    if s.sd.cmdOut ≠ .ok then (.again, raise .cmdTimeout s)
    else if respByte s 0 = 0 ∧ respByte s 1 = 0 then (.again, finish true .ready s)
    else (.again, raise .statusNonzero s)
  | .opening => cmdStep s
  | .busy => cmdStep s
  | .marshal => cmdStep s
  | .send => cmdStep s
  | .resp => cmdStep s

/-- The handler of `OP_PHASE` in `SD_READ` (R279); a phase of a write there, or `OP_NONE`, has no handler (R34; log 18). -/
def readHandler (s : State) : Except Stop (Ctl × State) :=
  match s.sd.opPhase with
  | .rdCmd => .ok (rdCmd s)
  | .rdToken => .ok (rdToken s)
  | .rdData => rdData s
  | .rdStop => .ok (rdStop s)
  | .rdAbort => .ok (abortPhase s)
  | .none => .error (.fault .controlTuple)
  | .wrCmd => .error (.fault .controlTuple)
  | .wrBusy => .error (.fault .controlTuple)
  | .wrSend => .error (.fault .controlTuple)
  | .wrDresp => .error (.fault .controlTuple)
  | .wrFinalBusy => .error (.fault .controlTuple)
  | .wrStopBusy => .error (.fault .controlTuple)
  | .wrStopToken => .error (.fault .controlTuple)
  | .wrStopPostBusy => .error (.fault .controlTuple)
  | .wrStatus => .error (.fault .controlTuple)
  | .wrAbort => .error (.fault .controlTuple)

/-- The handler of `OP_PHASE` in `SD_WRITE` (R279; log 18). -/
def writeHandler (s : State) : Except Stop (Ctl × State) :=
  match s.sd.opPhase with
  | .wrCmd => .ok (wrCmd s)
  | .wrBusy => .ok (wrBusy s)
  | .wrSend => wrSend s
  | .wrDresp => .ok (wrDresp s)
  | .wrFinalBusy => .ok (wrFinalBusy s)
  | .wrStopBusy => .ok (wrStopBusy s)
  | .wrStopToken => .ok (wrStopToken s)
  | .wrStopPostBusy => .ok (wrStopPostBusy s)
  | .wrStatus => .ok (wrStatus s)
  | .wrAbort => .ok (abortPhase s)
  | .none => .error (.fault .controlTuple)
  | .rdCmd => .error (.fault .controlTuple)
  | .rdToken => .error (.fault .controlTuple)
  | .rdData => .error (.fault .controlTuple)
  | .rdStop => .error (.fault .controlTuple)
  | .rdAbort => .error (.fault .controlTuple)

end Sys2Proof.Machine
end

