-- ==== Sys2Proof/Machine/CardInit.lean ====
section
/-! DEFINITION. Card initialisation (41_card_init.md R230-R252): entry, one definition per step, and removal
(42_block_io.md R305). -/

namespace Sys2Proof.Machine

/-- Entry to `SD_INIT` (R230). -/
def enterInit (s : State) : State :=
  s.onSd fun d =>
    { d with
      state := .init, initStep := .clocks, retryCnt := 0, cardV2 := false, blockAddr := false, capacity := 0
      lastErr := .ok, cmdPh := .idle, opPhase := .none, rxRetain := [], rxSkip := false }

/-- Card removal (R305). -/
def removal (s : State) : State :=
  let s := s.onSd fun d => { d with capacity := 0 }
  if s.op.valid then finish false .absent (s.onOp fun o => { o with err := .cardRemoved })
  else
    s.onSd fun d =>
      { d with
        session := false, rxRetain := [], rxSkip := false, cmdPh := .idle, opPhase := .none
        lastErr := .cardRemoved, state := .absent }

/-- Step `I_CLOCKS` (R231): the power-up clocks. -/
def initClocks (s : State) : Ctl × State :=
  match submit (List.replicate s.cfg.initClockBytes Config.fill) .echo s with
  | none => (.yield, s)
  | some s => (.yield, s.onSd fun d => { d with initStep := .cmd0, retryCnt := 0 })

/-- The common shape of a command step (R234): `first` is the step's first command (R232), `keep` says when the session is
kept, `eval` tests `RESP` on `C_OK`. -/
def initCommand (idx : BitVec 6) (arg : U32) (rtype : RType) (preBusy : Bool) (first : InitStep)
    (keep : State → Bool) (eval : State → State) (s : State) : Ctl × State :=
  match s.sd.cmdPh with
  | .idle => (.again, startCmd idx arg rtype preBusy s)
  | .done =>
    let s := s.onSd fun d => { d with session := keep s && d.session, cmdPh := .idle }
    match s.sd.cmdOut with
    | .timeout => (.again, initFail first .cmdTimeout s)
    | .busyTimeout => (.again, initFail first .busyTimeout s)
    | .ok => (.again, eval s)
  | .opening => cmdStep s
  | .busy => cmdStep s
  | .marshal => cmdStep s
  | .send => cmdStep s
  | .resp => cmdStep s

/-- No step but `I_CMD9` keeps its session (R234). -/
def keepNone : State → Bool := fun _ => false

/-- A step that a set illegal bit makes unusable and any other refused R1 fails (R238-R246): `good` is the acceptance test,
`first` the step's first command, `next` what success does. -/
def acceptR1 (good : Byte → Bool) (first : InitStep) (next : State → State) (s : State) : State :=
  if good (respByte s 0) then next s
  else if r1IsIllegal (respByte s 0) then unusable .illegalCmd s
  else initFail first .r1Error s

/-- Evaluation of `I_CMD0` (R235). -/
def evalCmd0 (s : State) : State := if respByte s 0 = 0x01 then initOk .cmd8 s else initFail .cmd0 .r1Error s

/-- Step `I_CMD0` (R235): no pre-command busy-poll. -/
def initCmd0 (s : State) : Ctl × State := initCommand 0 0 .r1 false .cmd0 keepNone evalCmd0 s

/-- Evaluation of `I_CMD8` (R236, R237): the illegal bit, then the error bits, then the echo (R508). -/
def evalCmd8 (s : State) : State :=
  if r1IsIllegal (respByte s 0) then
    initOk .cmd1 (s.onSd fun d => { d with cardV2 := false, tLoop := s.env.now })
  else if r1HasError (respByte s 0) then initFail .cmd8 .r1Error s
  else if respByte s 4 ≠ Config.checkPattern then initFail .cmd8 .checkPattern s
  else initOk .cmd59 (s.onSd fun d => { d with cardV2 := true })

/-- Step `I_CMD8` (R236). -/
def initCmd8 (s : State) : Ctl × State := initCommand 8 cmd8Arg .r7 true .cmd8 keepNone evalCmd8 s

/-- Evaluation of `I_CMD59` (R238). -/
def evalCmd59 (s : State) : State :=
  acceptR1 (fun b => !r1HasError b) .cmd59 (fun s => initOk .cmd55 (s.onSd fun d => { d with tLoop := s.env.now })) s

/-- Step `I_CMD59` (R238). -/
def initCmd59 (s : State) : Ctl × State :=
  initCommand 59 (cmd59Arg s.cfg.useCrc) .r1 true .cmd59 keepNone evalCmd59 s

/-- Evaluation of `I_CMD55` (R239): `RETRY_CNT` is not touched. -/
def evalCmd55 (s : State) : State :=
  acceptR1 (fun b => !r1HasError b) .cmd55 (fun s => s.onSd fun d => { d with initStep := .acmd41 }) s

/-- Step `I_CMD55` (R239). -/
def initCmd55 (s : State) : Ctl × State := initCommand 55 0 .r1 true .cmd55 keepNone evalCmd55 s

/-- The initialise loop's window has passed (R240); `none` never passes. -/
def loopExpired (s : State) : Bool :=
  match s.cfg.initLoopTimeoutMs with
  | none => false
  | some w => expired s.env.now s.sd.tLoop w

/-- Evaluation of an initialise command, `I_ACMD41` or `I_CMD1` (R240, R241): `again` is where the loop and a failure
restart. -/
def evalInitLoop (again : InitStep) (s : State) : State :=
  if respByte s 0 = 0x00 then initOk .cmd58 s
  else if respByte s 0 = 0x01 then
    if loopExpired s then s.onSd fun d => { d with lastErr := .initLoopTimeout, state := .failed }
    else s.onSd fun d => { d with initStep := again }
  else if r1IsIllegal (respByte s 0) then unusable .illegalCmd s
  else initFail again .r1Error s

/-- Step `I_ACMD41` (R240): its failures restart at `I_CMD55` (R232). -/
def initAcmd41 (s : State) : Ctl × State :=
  initCommand 41 acmd41Arg .r1 true .cmd55 keepNone (evalInitLoop .cmd55) s

/-- Step `I_CMD1` (R241). -/
def initCmd1 (s : State) : Ctl × State := initCommand 1 0 .r1 true .cmd1 keepNone (evalInitLoop .cmd1) s

/-- `OCR = be32(RESP, 1)` (R137). -/
def ocrOf (s : State) : U32 := be32 s.sd.resp.toList 1

/-- Evaluation of `I_CMD58` (R242). -/
def evalCmd58 (s : State) : State :=
  acceptR1 (fun b => b == 0) .cmd58
    (fun s =>
      if ocrVoltageOk (ocrOf s) then
        initOk .cmd9 (s.onSd fun d => { d with blockAddr := d.cardV2 && ocrCcs (ocrOf s) })
      else unusable .voltage s) s

/-- Step `I_CMD58` (R242). -/
def initCmd58 (s : State) : Ctl × State := initCommand 58 0 .r3 true .cmd58 keepNone evalCmd58 s

/-- Evaluation of `I_CMD9` (R243): on success the CSD read begins in the same session. -/
def evalCmd9 (s : State) : State :=
  acceptR1 (fun b => b == 0) .cmd9
    (fun s =>
      (s.onSd fun d => { d with initStep := .csd, opPhase := .rdToken, tAnchor := s.env.now }).onOp
        fun o => { o with len := 16 }) s

/-- CMD9 succeeded, so its session carries over (R234). -/
def cmd9Accepted (s : State) : Bool := s.sd.cmdOut == .ok && respByte s 0 == 0

/-- Step `I_CMD9` (R243). -/
def initCmd9 (s : State) : Ctl × State := initCommand 9 0 .r1 true .cmd9 cmd9Accepted evalCmd9 s

/-- Step `I_CSD` (R243): the read phases `RD_TOKEN` and `RD_DATA`; no other occurs (R34; log 18). -/
def initCsd (s : State) : Except Stop (Ctl × State) :=
  match s.sd.opPhase with
  | .rdToken => .ok (rdToken s)
  | .rdData => rdData s
  | .none => .error (.fault .controlTuple)
  | .rdCmd => .error (.fault .controlTuple)
  | .rdStop => .error (.fault .controlTuple)
  | .rdAbort => .error (.fault .controlTuple)
  | .wrCmd => .error (.fault .controlTuple)
  | .wrBusy => .error (.fault .controlTuple)
  | .wrSend => .error (.fault .controlTuple)
  | .wrDresp => .error (.fault .controlTuple)
  | .wrFinalBusy => .error (.fault .controlTuple)
  | .wrStopBusy => .error (.fault .controlTuple)
  | .wrStopToken => .error (.fault .controlTuple)
  | .wrStopPostBusy => .error (.fault .controlTuple)
  | .wrStatus => .error (.fault .controlTuple)
  | .wrAbort => .error (.fault .controlTuple)

/-- Evaluation of `I_CMD16` (R245). -/
def evalCmd16 (s : State) : State :=
  acceptR1 (fun b => b == 0) .cmd16
    (fun s => s.onSd fun d => { d with retryCnt := 0, initStep := .clocks, state := .ready }) s

/-- Step `I_CMD16` (R245). -/
def initCmd16 (s : State) : Ctl × State := initCommand 16 cmd16Arg .r1 true .cmd16 keepNone evalCmd16 s

/-- The handler of `INIT_STEP` (R279). -/
def initHandler (s : State) : Except Stop (Ctl × State) :=
  match s.sd.initStep with
  | .clocks => .ok (initClocks s)
  | .cmd0 => .ok (initCmd0 s)
  | .cmd8 => .ok (initCmd8 s)
  | .cmd59 => .ok (initCmd59 s)
  | .cmd55 => .ok (initCmd55 s)
  | .acmd41 => .ok (initAcmd41 s)
  | .cmd1 => .ok (initCmd1 s)
  | .cmd58 => .ok (initCmd58 s)
  | .cmd9 => .ok (initCmd9 s)
  | .csd => initCsd s
  | .cmd16 => .ok (initCmd16 s)

end Sys2Proof.Machine
end

