-- ==== Sys2Proof/Machine/Logging.lean ====
section
/-! DEFINITION. The log engine (44_logging_fsm.md R380-R404): acquisition, flight selection, drain, persist, pause and
resume, its callbacks, `log_service` and the queries. -/

namespace Sys2Proof.Machine

/-! ## Acquiring (R381-R386) -/

/-- `SB_IMG`, 512 bytes (R48). -/
def sbImage (s : State) : List Byte := s.peekList .sbimg 0 512

/-- Enter a terminal state with its cause (R45, R506). -/
def logFail (st : LogState) (e : Err) (s : State) : State := s.onLg fun l => { l with state := st, failReason := e }

/-- `L_ACQ_PT` and `L_ACQ_SB` (R381): read one block into `SB_IMG`; `pending` is the state that waits for it. -/
def acquire (block : U32) (pending : LogState) (s : State) : Ctl × State :=
  if s.sd.state.terminal then (.again, logFail .failed .deviceFailed s)
  else if s.sd.state ≠ .ready then (.yield, s)
  else
    match startOp .read block 1 ⟨.sbimg, 0⟩ .logRead 0 s with
    | (.ok, s) => (.yield, s.onLg fun l => { l with state := pending })
    | (_, s) => (.again, logFail .noValidPartition .noPartition s)

/-- The lowest valid entry of type `PART_TYPE`, among `n` entries from the `i`-th (R383). -/
def findPartition (table : List Byte) (i : Nat) : Nat → Option (List Byte)
  | 0 => none
  | n + 1 =>
    if entryValid (mbrEntry table i) && entryType (mbrEntry table i) == Config.partType then some (mbrEntry table i)
    else findPartition table (i + 1) n

/-- `L_PT_PARSED` (R383). -/
def parseTable (s : State) : State :=
  if !mbrValid (sbImage s) then logFail .noValidTable .invalidTable s
  else
    match findPartition (sbImage s) 0 Config.nPartEntries with
    | none => logFail .noValidPartition .noPartition s
    | some e =>
      s.onLg fun l =>
        { l with partStart := entryStartLba e, partLen := entryLength e, retry := 0, state := .acqSb }

/-- `+sat`: the saturating u32 sum (R15). -/
def satAdd (a b : U32) : U32 := BitVec.ofNat 32 (min (a.toNat + b.toNat) 0xFFFFFFFF)

/-- Store the current flight's record in `SB_IMG`: only its 12 bytes change (R355, R396). -/
def storeFlight (i : Nat) (first num ts : U32) (s : State) : State :=
  s.poke .sbimg (flightOffset i) (flightBytes first num ts)

/-- Entry to `L_ACTIVE` from flight selection (R386). -/
def enterActive (s : State) : State :=
  s.onLg fun l =>
    { l with
      state := .active, tLastPersist := s.env.now, tLastData := s.env.now, wif := .none
      pauseReq := false, oosPending := false }

/-- Flight selection (R385): `CONTINUE_FLIGHT` is sampled here (R62). -/
def selectFlight (s : State) : State :=
  match flightSlotFor (sbImage s) s.env.continueFlight with
  | none => logFail .noValidPartition .noFreeSlot s
  | some (i, .continued) =>
    let r := flightGet (sbImage s) i
    enterActive (s.onLg fun l =>
      { l with flightIdx := BitVec.ofNat 5 i, flFirst := r.1, flNum := r.2.1, flTs := r.2.2, flightValid := true })
  | some (i, .fresh) =>
    let prev := flightGet (sbImage s) (i - 1)
    let first := if i = 0 then 1 else satAdd prev.1 prev.2.1
    let s := s.onLg fun l =>
      { l with flightIdx := BitVec.ofNat 5 i, flFirst := first, flNum := 0, flTs := 0, flightValid := true }
    enterActive (storeFlight i first 0 0 s)

/-- `L_SB_PARSED` (R384): the magics, then the version, then flight selection. -/
def parseSuperblock (s : State) : State :=
  if !sbValid (sbImage s) then logFail .noValidPartition .badSbMagic s
  else if sbVersionOf (sbImage s) ≠ s.cfg.sbVersion then logFail .noValidPartition .badSbVersion s
  else selectFlight s

/-! ## Persist (R396) -/

/-- `persist(kind)` (R396). The record is stored in `SB_IMG` before the write is asked for (log 31). `FLIGHT_IDX` is read
only while it has a meaning (R63; log 17). -/
def persist (kind : SbKind) (s : State) : Except Stop State :=
  if !s.lg.flightValid then .error (.fault .meaninglessRead)
  else
    let s := storeFlight s.lg.flightIdx.toNat s.lg.flFirst s.lg.flNum s.lg.flTs s
    match startOp .write s.lg.partStart 1 ⟨.sbimg, 0⟩ .logSb (kind.code.setWidth 32) s with
    | (.ok, s) =>
      .ok (s.onLg fun l =>
        { l with
          wif := .sb, sbKind := kind
          pauseReq := if kind = .pause then false else l.pauseReq
          oosPending := if kind = .oos then false else l.oosPending })
    | (_, s) => .ok s

/-! ## Drain (R390-R393) -/

/-- The watermark marks of R390. -/
def markFull (i : Nat) (s : State) : State :=
  if nearFull s.cfg.logBufCap s.cfg.watermark (s.sh.buf i).count then storePending i true s else s

/-- The age mark of R390: only the active buffer, only if it holds bytes. -/
def markAged (ip : U32) (s : State) : State :=
  if ipValid ip && expired s.env.now s.lg.tLastData s.cfg.dataAgeIntervalMs && (s.sh.buf (ipIdx ip)).count != 0 then
    storePending (ipIdx ip) true s
  else s

/-- The nulling of `IP` when the active buffer is pending (R390). -/
def nullIp (ip : U32) (s : State) : State :=
  if ipValid ip && (s.sh.buf (ipIdx ip)).pending then storeIp (ipNull ip) s else s

/-- Drain marking (R390). -/
def drainMark (s : State) : State :=
  let s := markFull 1 (markFull 0 s)
  nullIp s.sh.ip (markAged s.sh.ip s)

/-- A buffer that may be written: pending and with no outstanding checkout (R391). -/
def drainable (b : Buf) : Bool := b.pending && b.checkouts == 0

/-- Drain selection (R391): the buffer to write, if any. -/
def drainSelect (s : State) : Option Nat × State :=
  let sel : Option Nat := if drainable s.sh.buf0 then some 0 else if drainable s.sh.buf1 then some 1 else none
  match sel with
  | none => (none, s)
  | some i => if (s.sh.buf i).count = 0 then (none, storePending i false s) else (some i, s)

/-- The critical section around marking and selection (R107, R390, R391): no irq step runs while it is held. -/
def drainSection (s : State) : Except Stop (Option Nat × State) :=
  if !ipWellFormed s.sh.ip then .error (.fault (.insertionPoint s.sh.ip))
  else
    let r := drainSelect (drainMark (s.onEnv fun e => { e with critical := true }))
    .ok (r.1, r.2.onEnv fun e => { e with critical := false })

/-- The padding bytes of R392 for a pad of this many bytes. -/
def padBytes (p : Params) (pad : Nat) : List Byte :=
  if 4 ≤ pad then
    hdrBytes (p.spacerClass.setWidth 16) (p.spacerType.setWidth 16) (BitVec.ofNat 16 (pad - 4)) ++ List.replicate (pad - 4) 0
  else List.replicate pad 0

/-- Drain padding (R392), an atomic load of `COUNT` first and an atomic store of it last. -/
def drainPad (pre : Hook) (b : Nat) (s : State) : Except Stop State := do
  let s ← pre s
  let c := (s.sh.buf b).count.toNat
  if c % 512 = 0 then .ok s
  else
    let pad := 512 - c % 512
    let s ← writeBytes s .logbuf (handleOf s.cfg.logBufCap b c).toNat (padBytes s.cfg pad)
    let s ← pre s
    .ok (storeCount b (BitVec.ofNat 32 (c + pad)) s)

/-- Drain issue (R393). -/
def drainIssue (pre : Hook) (b : Nat) (s : State) : Except Stop (Ctl × State) := do
  let s ← pre s
  let need := (s.sh.buf b).count.toNat / 512
  let n := min need (flightRemaining s.lg)
  if n = 0 then .ok (.again, s.onLg fun l => { l with oosPending := true })
  else
    match startOp .write (flightNextBlock s.lg) (BitVec.ofNat 32 n) ⟨.logbuf, bufBase s.cfg.logBufCap b⟩ .logData
        (BitVec.ofNat 32 b) s with
    | (.ok, s) =>
      .ok (.yield, s.onLg fun l =>
        { l with
          wif := .data, wifBuf := if b = 0 then 0 else 1, wifNblk := BitVec.ofNat 32 n, tLastData := s.env.now
          oosPending := if n < need then true else l.oosPending })
    | (_, s) => .ok (.yield, s)

/-- The drain (R390-R393). -/
def drain (pre : Hook) (s : State) : Except Stop (Ctl × State) := do
  let (sel, s) ← drainSection s
  match sel with
  | none => .ok (.yield, s)
  | some b =>
    let s ← drainPad pre b s
    drainIssue pre b s

/-! ## The active and paused states (R387, R389, R398) -/

/-- `L_ACTIVE` (R389), in its order of priority (R508). -/
def activeHandler (pre : Hook) (s : State) : Except Stop (Ctl × State) :=
  if s.lg.wif ≠ .none then .ok (.yield, s)
  else if s.sd.state.terminal then .ok (.again, logFail .failed .deviceFailed s)
  else if s.lg.oosPending then (persist .oos s).map fun s => (.yield, s)
  else if s.lg.pauseReq then (persist .pause s).map fun s => (.yield, s)
  else if expired s.env.now s.lg.tLastPersist s.cfg.sbPersistIntervalMs then
    (persist .periodic s).map fun s => (.yield, s)
  else drain pre s

/-- `L_PAUSED` (R398). -/
def pausedHandler (s : State) : Ctl × State :=
  if s.lg.wif = .none ∧ s.sd.state.terminal then (.again, logFail .failed .deviceFailed s) else (.yield, s)

/-- One handler run of the log engine (R380, R388). -/
def logHandler (pre : Hook) (s : State) : Except Stop (Ctl × State) :=
  match s.lg.state with
  | .acqPt => .ok (acquire 0 .ptPending s)
  | .acqSb => .ok (acquire s.lg.partStart .sbPending s)
  | .ptPending => .ok (.yield, s)
  | .sbPending => .ok (.yield, s)
  | .ptParsed => .ok (.again, parseTable s)
  | .sbParsed => .ok (.again, parseSuperblock s)
  | .active => activeHandler pre s
  | .paused => .ok (pausedHandler s)
  | .tooManyRetries => .ok (.yield, s)
  | .noValidTable => .ok (.yield, s)
  | .noValidPartition => .ok (.yield, s)
  | .outOfSpace => .ok (.yield, s)
  | .failed => .ok (.yield, s)

/-- The loop of R388. The first argument bounds the handler runs (log 20): at most `L_SB_PARSED`, `L_ACTIVE` finding no space
and `L_ACTIVE` persisting follow one another. -/
def logLoop (pre : Hook) : Nat → State → Except Stop State
  | 0, _ => .error (.fault .pollBound)
  | fuel + 1, s => do
    let (c, s) ← logHandler pre s
    match c with
    | .again => logLoop pre fuel s
    | .yield => .ok s

/-! ## Callbacks (R382, R395, R397) -/

/-- `log_read_cb` (R382). -/
def logReadCb (c : CbCall) (s : State) : State :=
  let onPt := s.lg.state == .ptPending
  if c.success then s.onLg fun l => { l with state := if onPt then .ptParsed else .sbParsed }
  else
    let s := s.onLg fun l => { l with retry := l.retry + 1 }
    if s.cfg.retryCeiling < s.lg.retry then logFail .tooManyRetries .retries s
    else s.onLg fun l => { l with state := if onPt then .acqPt else .acqSb }

/-- `log_data_cb` (R395): `ctx` is the buffer. `WIF_NBLK` is read only while it has a meaning (R63; log 17). -/
def logDataCb (pre : Hook) (c : CbCall) (s : State) : Except Stop State := do
  if s.lg.wif ≠ .data then .error (.fault .meaninglessRead)
  else
    let s := s.onLg fun l => { l with wif := .none }
    if c.success ∧ c.blocks = s.lg.wifNblk then
      let s := s.onLg fun l => { l with flNum := l.flNum + l.wifNblk }
      let s ← pre s
      let s := storePending c.ctx.toNat false s
      let s ← pre s
      .ok (storeCount c.ctx.toNat 0 s)
    else .ok s

/-- `kind` of a persist's callback, from its `ctx` (R160, R397). -/
def sbKindOf (ctx : U32) : SbKind := if ctx = 1 then .pause else if ctx = 2 then .oos else .periodic

/-- `log_sb_cb` (R397). -/
def logSbCb (c : CbCall) (s : State) : State :=
  let s := s.onLg fun l =>
    { l with wif := .none, tLastPersist := if c.success then s.env.now else l.tLastPersist }
  match sbKindOf c.ctx with
  | .periodic => s
  | .pause => s.onLg fun l => { l with state := .paused }
  | .oos => logFail .outOfSpace .outOfSpace s

/-! ## Meanings -/

/-- `log_service(now)` (R388): nothing is returned. -/
def execLogService (now : U32) (s : State) : Host.Outcome State Fault Refusal :=
  toOutcome ((logLoop preemptPoint 8 (s.onEnv fun e => { e with now := now })).map (putRet .none))

/-- `pause()` (R400). -/
def execPause (s : State) : Host.Outcome State Fault Refusal :=
  .next (putRet .none (if s.lg.state = .active then s.onLg fun l => { l with pauseReq := true } else s))

/-- `resume()` (R401). -/
def execResume (s : State) : Host.Outcome State Fault Refusal :=
  .next (putRet .none (if s.lg.state = .paused then s.onLg fun l => { l with state := .active, pauseReq := false } else s))

/-- `set_flight_timestamp(utc_seconds)` (R402): only while a flight is selected (R59). -/
def execSetFlightTimestamp (utcSeconds : U32) (s : State) : Host.Outcome State Fault Refusal :=
  .next (putRet .none
    (if s.lg.flightValid ∧ (s.lg.state = .active ∨ s.lg.state = .paused) ∧ s.lg.flTs = 0 then s.onLg fun l => { l with flTs := utcSeconds } else s))

/-- `log_state()` (R403). -/
def execLogState (s : State) : Host.Outcome State Fault Refusal := .next (putRet (.byte s.lg.state.code) s)

/-- `log_fail_reason()` (R404). -/
def execLogFailReason (s : State) : Host.Outcome State Fault Refusal :=
  .next (putRet (.byte s.lg.failReason.errorCode) s)

end Sys2Proof.Machine
end

