-- ==== Sys2Proof/Machine/Device.lean ====
section
/-! DEFINITION. The block device's host operations (42_block_io.md R311-R317), the callbacks inside a poll (46_ports.md R469)
and the service poll `sd_service` (R277-R279). -/

namespace Sys2Proof.Machine

/-! ## Host operations (R311-R317) -/

/-- `read(addr, count, buf, cb, ctx)` (R311). -/
def execRead (addr count : U32) (buf : HostAddr) (cb ctx : U32) (s : State) : Host.Outcome State Fault Refusal :=
  .next (putCode (startOp .read addr count ⟨.host, buf⟩ (.client cb) ctx s).1
    (startOp .read addr count ⟨.host, buf⟩ (.client cb) ctx s).2)

/-- `write(addr, count, buf, cb, ctx)` (R312). -/
def execWrite (addr count : U32) (buf : HostAddr) (cb ctx : U32) (s : State) : Host.Outcome State Fault Refusal :=
  .next (putCode (startOp .write addr count ⟨.host, buf⟩ (.client cb) ctx s).1
    (startOp .write addr count ⟨.host, buf⟩ (.client cb) ctx s).2)

/-- `status()` (R313). -/
def execStatus (s : State) : Host.Outcome State Fault Refusal := .next (putRet (.byte s.sd.state.status) s)

/-- `capacity_blocks()` (R314). -/
def execCapacityBlocks (s : State) : Host.Outcome State Fault Refusal := .next (putRet (.word s.sd.capacity) s)

/-- `sd_state()` (R316). -/
def execSdState (s : State) : Host.Outcome State Fault Refusal := .next (putRet (.byte s.sd.state.code) s)

/-- `sd_last_error()` (R317). -/
def execSdLastError (s : State) : Host.Outcome State Fault Refusal := .next (putRet (.byte s.sd.lastErr.errorCode) s)

/-! ## Callbacks (R469) -/

/-- A host operation a client's callback makes: every main-context operation but the two services (R469, D38). A service
call there is context misuse (R565); a wire word is no call. -/
def callFromCallback (i : Instr) (s : State) : Host.Outcome State Fault Refusal :=
  match i with
  | .read addr count buf cb ctx => execRead addr count buf cb ctx s
  | .write addr count buf cb ctx => execWrite addr count buf cb ctx s
  | .status => execStatus s
  | .capacityBlocks => execCapacityBlocks s
  | .sdState => execSdState s
  | .sdLastError => execSdLastError s
  | .log data len => execLog data len s
  | .logGather segments count => execLogGather segments count s
  | .checkout len => execCheckout len s
  | .checkin handle => execCheckin handle s
  | .pause => execPause s
  | .resume => execResume s
  | .setFlightTimestamp utc => execSetFlightTimestamp utc s
  | .flightBlocks => execFlightBlocks s
  | .missedCheckouts => execMissedCheckouts s
  | .logState => execLogState s
  | .logFailReason => execLogFailReason s
  | .crc7 data len => execCrc7 data len s
  | .crc16Update crc byte => execCrc16Update crc byte s
  | .crc16 data len => execCrc16 data len s
  | .buildCommand index argument => execBuildCommand index argument s
  | .parseResponse window len expectedLen => execParseResponse window len expectedLen s
  | .csdCapacity csd => execCsdCapacity csd s
  | .mbrIsValid block => execMbrIsValid block s
  | .mbrGetEntry block n => execMbrGetEntry block n s
  | .mbrEntryIsValid entry => execMbrEntryIsValid entry s
  | .mbrEntryType entry => execMbrEntryType entry s
  | .mbrEntryStartLba entry => execMbrEntryStartLba entry s
  | .mbrEntryLength entry => execMbrEntryLength entry s
  | .mbrInitTable block => execMbrInitTable block s
  | .mbrInitEntry block n type start length => execMbrInitEntry block n type start length s
  | .sbIsValid block => execSbIsValid block s
  | .sbVersion block => execSbVersion block s
  | .sbContinued block => execSbContinued block s
  | .sbPartitionLength block => execSbPartitionLength block s
  | .sbFlightGet block i => execSbFlightGet block i s
  | .sbFlightSet block i first num ts => execSbFlightSet block i first num ts s
  | .sbFlightSlotFor block cont => execSbFlightSlotFor block cont s
  | .sbInit block partLen => execSbInit block partLen s
  | .hdrEncode cls type length => execHdrEncode cls type length s
  | .hdrDecode b0 b1 b2 b3 => execHdrDecode b0 b1 b2 b3 s
  | .sdService _ _ => .refused .contextMisuse
  | .logService _ => .refused .contextMisuse
  | .cmd0 _ => .refused .contextMisuse
  | .cmd1 _ => .refused .contextMisuse
  | .cmd8 _ => .refused .contextMisuse
  | .cmd9 _ => .refused .contextMisuse
  | .cmd12 _ => .refused .contextMisuse
  | .cmd13 _ => .refused .contextMisuse
  | .cmd16 _ => .refused .contextMisuse
  | .cmd17 _ _ => .refused .contextMisuse
  | .cmd18 _ _ => .refused .contextMisuse
  | .cmd24 _ _ => .refused .contextMisuse
  | .cmd25 _ _ => .refused .contextMisuse
  | .cmd55 _ => .refused .contextMisuse
  | .acmd41 _ => .refused .contextMisuse
  | .cmd58 _ => .refused .contextMisuse
  | .cmd59 _ _ => .refused .contextMisuse
  | .r1 _ => .refused .contextMisuse
  | .r1b _ => .refused .contextMisuse
  | .r2 _ _ => .refused .contextMisuse
  | .r3 _ _ => .refused .contextMisuse
  | .r7 _ _ _ _ => .refused .contextMisuse
  | .tokStart => .refused .contextMisuse
  | .tokStartMulti => .refused .contextMisuse
  | .tokStop => .refused .contextMisuse
  | .dataResponse _ _ => .refused .contextMisuse
  | .dataError _ => .refused .contextMisuse

/-- The calls one callback makes, each returned value recorded (log 13). -/
def callbackCalls : List Instr → State → Except Stop State
  | [], s => .ok s
  | i :: rest, s => do
    let s ← ofOutcome (callFromCallback i s)
    callbackCalls rest (s.onEnv fun e => { e with cbRets := e.cbRets ++ [e.ret] })

/-- A client's callback (R469): recorded, then it makes the calls scripted for it (log 12). -/
def clientCallback (c : CbCall) (s : State) : Except Stop State :=
  callbackCalls (s.env.cbScript.headD [])
    (s.onEnv fun e => { e with callbacks := e.callbacks ++ [c.record], cbScript := e.cbScript.tail })

/-- Make the callback `finish` requested, if any (R469, R503, R510). -/
def runCallback (s : State) : Except Stop State :=
  match s.env.cbQueue with
  | none => .ok s
  | some c =>
    let s := s.onEnv fun e => { e with cbQueue := none }
    match c.cb with
    | .logRead => .ok (logReadCb c s)
    | .logData => logDataCb preemptPoint c s
    | .logSb => .ok (logSbCb c s)
    | .client _ => clientCallback c s

/-! ## The service poll (R277-R279) -/

/-- How many bytes of `RESP` the handler of the control tuple examines when its command has ended with `C_OK` (R235-R246, R285,
R290, R300); a step or phase that ends no command, and an abort (R289, R301), examine none. -/
def respExamined (s : State) : Nat :=
  match s.sd.state with
  | .init =>
    match s.sd.initStep with
    | .clocks => 0
    | .csd => 0
    | .cmd8 => responseLength .r7
    | .cmd58 => responseLength .r3
    | _ => responseLength .r1
  | .read => if s.sd.opPhase = .rdCmd then responseLength .r1 else 0
  | .write => if s.sd.opPhase = .wrCmd then responseLength .r1 else if s.sd.opPhase = .wrStatus then responseLength .r2 else 0
  | _ => 0

/-- The handler would examine a byte of `RESP` that no response of its command wrote (R36, R63; log 17). -/
def respMeaningless (s : State) : Bool :=
  s.sd.cmdPh == .done && s.sd.cmdOut == .ok && decide (s.sd.respGot < respExamined s)

/-- The handler of the control tuple (R279). `OP_*` has a meaning only while `OP_VALID = 1`, `RESP` only up to `RESP_GOT`
(R36, R42, R63; log 17). -/
def sdHandler (s : State) : Except Stop (Ctl × State) :=
  if respMeaningless s then .error (.fault .meaninglessRead)
  else
  match s.sd.state with
  | .init => initHandler s
  | .read => if s.op.valid then readHandler s else .error (.fault .meaninglessRead)
  | .write => if s.op.valid then writeHandler s else .error (.fault .meaninglessRead)
  | .absent => if s.env.cardDetect then .ok (.again, enterInit s) else .ok (.yield, s)
  | .ready => .ok (.yield, s)
  | .failRetries => .ok (.yield, s)
  | .unusable => .ok (.yield, s)
  | .failed => .ok (.yield, s)

/-- One round of R279's loop: the pending transaction, then removal, then the handler (R508). -/
def pollBody (s : State) : Except Stop (Ctl × State) := do
  if s.sd.xferPending && !s.env.done then .ok (.yield, s)
  else
    let s ← if s.sd.xferPending then deliver s else .ok s
    if !s.env.cardDetect && s.sd.state != .absent then .ok (.again, removal s)
    else sdHandler s

/-- One round with the callback it requests (R503, R510). -/
def pollRound (s : State) : Except Stop (Ctl × State) := do
  let (c, s) ← pollBody s
  let s ← runCallback s
  .ok (c, s)

/-- The loop of R277 and R279. The first argument bounds the rounds (log 20). -/
def pollLoop : Nat → State → Except Stop State
  | 0, _ => .error (.fault .pollBound)
  | fuel + 1, s => do
    let (c, s) ← pollRound s
    match c with
    | .again => pollLoop fuel s
    | .yield => .ok s

/-- The rounds a poll may take: every AGAIN moves the control tuple forward or consumes a received byte (R277; log 20). -/
def pollBound (s : State) : Nat := 64 + 8 * (s.sd.rxRetain.length + s.env.inBytes.length)

/-- The inputs of a poll (R466, R467): without a card-detect input the card counts as present. -/
def latchInputs (now : U32) (cardDetect : Bool) (s : State) : State :=
  s.onEnv fun e => { e with now := now, cardDetect := cardDetect || !s.cfg.hasCardDetect }

/-- The poll with its inputs latched. -/
def sdPoll (now : U32) (cardDetect : Bool) (s : State) : Except Stop State :=
  pollLoop (pollBound s) (latchInputs now cardDetect s)

/-- `sd_service(now, card_detect)` (R279): nothing is returned. -/
def execSdService (now : U32) (cardDetect : Bool) (s : State) : Host.Outcome State Fault Refusal :=
  toOutcome ((sdPoll now cardDetect s).map (putRet .none))

end Sys2Proof.Machine
end

