-- ==== Sys2Proof/Machine/Wire.lean ====
section
/-! DEFINITION. The words on the wire (30_encoding.md R130-R143). A word the engine sends is one handler run of the SD engine,
where the control tuple and the operands select exactly that word; elsewhere the engine does not emit it and nothing
changes (R131, R162; log 7). A word the card sends takes the next byte clocks of the pending transaction, which completes,
and the phase that searches examines it (R162, R163; log 8). -/

namespace Sys2Proof.Machine

/-! ## Words the engine sends -/

/-- The engine may run a handler: no transaction is pending and the card is present (R278, R305, R508). -/
def engineFree (s : State) : Bool := !s.sd.xferPending && s.env.cardDetect

/-- One run of the handler the control tuple selects, with the callback it requests, if the word is the one it sends. -/
def sendWord (selected : Bool) (s : State) : Host.Outcome State Fault Refusal :=
  toOutcome
    (if selected && engineFree s then do
      let (_, s) ← sdHandler s
      runCallback s
    else .ok s)

/-- The frame's CRC field is the one the engine sends (R130, R205). -/
def crcMatches (idx : BitVec 6) (arg : U32) (crc : BitVec 7) : Bool := crc == frameCrc idx arg

/-- The engine is at this initialisation step (R33). -/
def atInit (st : InitStep) (s : State) : Bool := s.sd.state == .init && s.sd.initStep == st

/-- The engine is in this phase of an operation (R34). -/
def atPhase (st : SdState) (p : OpPhase) (s : State) : Bool := s.sd.state == st && s.op.valid && s.sd.opPhase == p

/-- The operation's command argument (R117, R132). -/
def opArgument (s : State) : U32 := cardArg s.sd.blockAddr s.op.addr

/-- The control tuples that send CMD12: an abort, or the overlap on the final block (R287, R289, R301). -/
def sendsStop (s : State) : Bool :=
  atPhase .read .rdAbort s || atPhase .write .wrAbort s || (atPhase .read .rdData s && finalOfMany s.op)

/-- CMD0 (R131, R235). -/
def execCmd0 (crc : BitVec 7) (s : State) : Host.Outcome State Fault Refusal :=
  sendWord (atInit .cmd0 s && crcMatches 0 0 crc) s

/-- CMD1 (R131, R241). -/
def execCmd1 (crc : BitVec 7) (s : State) : Host.Outcome State Fault Refusal :=
  sendWord (atInit .cmd1 s && crcMatches 1 0 crc) s

/-- CMD8 (R131, R236). -/
def execCmd8 (crc : BitVec 7) (s : State) : Host.Outcome State Fault Refusal :=
  sendWord (atInit .cmd8 s && crcMatches 8 cmd8Arg crc) s

/-- CMD9 (R131, R243). -/
def execCmd9 (crc : BitVec 7) (s : State) : Host.Outcome State Fault Refusal :=
  sendWord (atInit .cmd9 s && crcMatches 9 0 crc) s

/-- CMD12 (R131, R287, R289, R301). -/
def execCmd12 (crc : BitVec 7) (s : State) : Host.Outcome State Fault Refusal :=
  sendWord (sendsStop s && crcMatches 12 0 crc) s

/-- CMD13 (R131, R300). -/
def execCmd13 (crc : BitVec 7) (s : State) : Host.Outcome State Fault Refusal :=
  sendWord (atPhase .write .wrStatus s && crcMatches 13 0 crc) s

/-- CMD16 (R131, R245). -/
def execCmd16 (crc : BitVec 7) (s : State) : Host.Outcome State Fault Refusal :=
  sendWord (atInit .cmd16 s && crcMatches 16 cmd16Arg crc) s

/-- CMD17 (R131, R285). -/
def execCmd17 (arg : U32) (crc : BitVec 7) (s : State) : Host.Outcome State Fault Refusal :=
  sendWord (atPhase .read .rdCmd s && s.op.count == 1 && arg == opArgument s && crcMatches 17 arg crc) s

/-- CMD18 (R131, R285). -/
def execCmd18 (arg : U32) (crc : BitVec 7) (s : State) : Host.Outcome State Fault Refusal :=
  sendWord (atPhase .read .rdCmd s && s.op.count != 1 && arg == opArgument s && crcMatches 18 arg crc) s

/-- CMD24 (R131, R290). -/
def execCmd24 (arg : U32) (crc : BitVec 7) (s : State) : Host.Outcome State Fault Refusal :=
  sendWord (atPhase .write .wrCmd s && s.op.count == 1 && arg == opArgument s && crcMatches 24 arg crc) s

/-- CMD25 (R131, R290). -/
def execCmd25 (arg : U32) (crc : BitVec 7) (s : State) : Host.Outcome State Fault Refusal :=
  sendWord (atPhase .write .wrCmd s && s.op.count != 1 && arg == opArgument s && crcMatches 25 arg crc) s

/-- CMD55 (R131, R239). -/
def execCmd55 (crc : BitVec 7) (s : State) : Host.Outcome State Fault Refusal :=
  sendWord (atInit .cmd55 s && crcMatches 55 0 crc) s

/-- ACMD41 (R131, R240). -/
def execAcmd41 (crc : BitVec 7) (s : State) : Host.Outcome State Fault Refusal :=
  sendWord (atInit .acmd41 s && crcMatches 41 acmd41Arg crc) s

/-- CMD58 (R131, R242). -/
def execCmd58 (crc : BitVec 7) (s : State) : Host.Outcome State Fault Refusal :=
  sendWord (atInit .cmd58 s && crcMatches 58 0 crc) s

/-- CMD59 (R131, R238): its argument is `USE_CRC`. -/
def execCmd59 (useCrc : BitVec 1) (crc : BitVec 7) (s : State) : Host.Outcome State Fault Refusal :=
  sendWord (atInit .cmd59 s && useCrc.setWidth 32 == cmd59Arg s.cfg.useCrc && crcMatches 59 (useCrc.setWidth 32) crc) s

/-! ## Words the card sends -/

/-- The card sends a word on the pending transaction: the transaction completes (R461, R463), its in-bytes are delivered and
the selected handler runs (R278); a response's remaining bytes are taken by a second run (R283). With no byte clock pending
nothing is exchanged. -/
def cardSends (word : List Byte) (s : State) : Host.Outcome State Fault Refusal :=
  toOutcome
    (if s.sd.xferPending && !s.env.done then do
      let (c, s) ← pollRound (completeTransfer (s.onEnv fun e => { e with stream := word ++ e.stream }))
      if c = .again ∧ s.sd.cmdPh = .resp then
        let (_, s) ← pollRound s
        .ok s
      else .ok s
    else .ok s)

/-- R1 (R133, R134). -/
def execR1 (status : BitVec 7) (s : State) : Host.Outcome State Fault Refusal :=
  cardSends (encode (.r1 status)) s

/-- R1b (R133, R135). -/
def execR1b (status : BitVec 7) (s : State) : Host.Outcome State Fault Refusal :=
  cardSends (encode (.r1b status)) s

/-- R2 (R133, R136). -/
def execR2 (status : BitVec 7) (second : Byte) (s : State) : Host.Outcome State Fault Refusal :=
  cardSends (encode (.r2 status second)) s

/-- R3 (R133, R137, R138). -/
def execR3 (status : BitVec 7) (ocr : U32) (s : State) : Host.Outcome State Fault Refusal :=
  cardSends (encode (.r3 status ocr)) s

/-- R7 (R133, R137). -/
def execR7 (status : BitVec 7) (other : BitVec 20) (voltage : BitVec 4) (echo : Byte) (s : State) : Host.Outcome State Fault Refusal :=
  cardSends (encode (.r7 status other voltage echo)) s

/-- The data-response token (R141, R295). -/
def execDataResponse (ignored : BitVec 3) (status : BitVec 3) (s : State) : Host.Outcome State Fault Refusal :=
  cardSends (encode (.dataResponse ignored status)) s

/-- The data-error token (R142, R284). -/
def execDataError (bits : BitVec 4) (s : State) : Host.Outcome State Fault Refusal :=
  cardSends (encode (.dataError bits)) s

/-- `TOK_START` (R140): sent before a single-block write's data (R293), else sent by the card before a read's (R284). -/
def execTokStart (s : State) : Host.Outcome State Fault Refusal :=
  if s.sd.xferPending then cardSends (encode .tokStart) s
  else sendWord (atPhase .write .wrSend s && s.op.count == 1) s

/-- `TOK_START_MULTI` (R140, R293): before each block of a multi-block write. -/
def execTokStartMulti (s : State) : Host.Outcome State Fault Refusal :=
  sendWord (atPhase .write .wrSend s && s.op.count != 1) s

/-- `TOK_STOP` (R140, R298): the end of a multi-block write. -/
def execTokStop (s : State) : Host.Outcome State Fault Refusal := sendWord (atPhase .write .wrStopToken s) s

end Sys2Proof.Machine
end

