-- ==== Sys2Proof/Machine/Agents.lean ====
section
/-! DEFINITION. Fetching the next entry of the agenda and the environment's events between calls (46_ports.md R460-R468,
70_reset_and_hazards.md R550-R554; log 1, 6). Step.lean only calls these. -/

namespace Sys2Proof.Machine

/-- What the next entry of the agenda asks of the machine. -/
inductive Fetched where
  /-- run a decoded instruction in a context -/
  | run (ctx : Ctx) (i : Instr)
  /-- an unassigned host code (R157), in either context (log 35) -/
  | unassigned (ctx : Ctx)
  /-- bytes that are no instruction (R162; log 6) -/
  | undecodable (e : DecodeError)
  /-- an event of the environment -/
  | event
deriving DecidableEq, Repr

/-- Decode an entry of the agenda: a call record with the host format, a wire word with the format of its place (log 6). -/
def fetch (ev : Event) : Fetched :=
  match ev with
  | .call ctx record =>
    match decode .hostop record with
    | .ok (i, _) => .run ctx i
    | .error (.unassignedHostCode _) => .unassigned ctx
    | .error e => .undecodable e
  | .wire f word =>
    match decode f word with
    | .ok (i, _) => .run .main i
    | .error e => .undecodable e
  | .complete => .event
  | .transport _ _ => .event
  | .card _ => .event
  | .store _ _ _ => .event
  | .continueFlight _ => .event
  | .irqs _ => .event
  | .callbacks _ => .event
  | .reset => .event

/-- R468: main may make every call; irq only the producers'. -/
def allowed (ctx : Ctx) (i : Instr) : Bool :=
  match ctx with
  | .main => true
  | .irq => isProducer i

/-- The running context of the next call. -/
def inContext (ctx : Ctx) (s : State) : State := s.onEnv fun e => { e with ctx := ctx }

/-- Power loss or construction (R550, R554): the block's state takes its reset value. The caller's memory, the parameters,
the schedule and the records stay; the transport has no transaction in progress (R553; log 26). -/
def resetBlock (s : State) : State :=
  { State.resetWith s.cfg with
    mem := ⟨s.mem.host, [], []⟩
    env := { s.env with done := false, inBytes := [], critical := false, cbQueue := none, ctx := .main } }

/-- A store by the caller or a producer (R92, R93, R433; log 25). `SB_IMG` belongs to the block: no caller reaches it (R94). -/
def callerStore (sp : Space) (a : Nat) (bytes : List Byte) (s : State) : Except Stop State :=
  match sp with
  | .host => writeBytes s .host a bytes
  | .logbuf => writeBytes s .logbuf a bytes
  | .sbimg => .error (.fault (.address .sbimg a))

/-- The effect of an event of the environment; calls and words have theirs through `fetch`. -/
def environment (ev : Event) (s : State) : Except Stop State :=
  match ev with
  | .call _ _ => .ok s
  | .wire _ _ => .ok s
  | .complete => .ok (completeTransfer s)
  | .transport openOk submitOk => .ok (s.onEnv fun e => { e with openOk := openOk, submitOk := submitOk })
  | .card bytes => .ok (s.onEnv fun e => { e with stream := e.stream ++ bytes })
  | .store sp a bytes => callerStore sp a bytes s
  | .continueFlight v => .ok (s.onEnv fun e => { e with continueFlight := v })
  | .irqs batches => .ok (s.onEnv fun e => { e with irqs := e.irqs ++ batches })
  | .callbacks calls => .ok (s.onEnv fun e => { e with cbScript := e.cbScript ++ calls })
  | .reset => .ok (resetBlock s)

/-- The agenda entry that holds a word of the opcode table with operand bytes of zeros after it: a call from main, or a wire
word at a place of its format (log 6). -/
def tableEvent (nbits w : Nat) : Event :=
  match formatOfWord nbits w with
  | some .hostop => .call .main (tableBytes nbits w)
  | some f => .wire f (tableBytes nbits w)
  | none => .call .main (tableBytes nbits w)

end Sys2Proof.Machine
end

