-- ==== Sys2Proof/Machine/Dispatch.lean ====
section
/-! DEFINITION. The dispatch: one arm per instruction, each one direct call of its meaning. -/

namespace Sys2Proof.Machine

def exec (i : Instr) (s : State) : Host.Outcome State Fault Refusal :=
  match i with
  | .cmd0 crc => Sys2Proof.Machine.execCmd0 crc s
  | .cmd1 crc => Sys2Proof.Machine.execCmd1 crc s
  | .cmd8 crc => Sys2Proof.Machine.execCmd8 crc s
  | .cmd9 crc => Sys2Proof.Machine.execCmd9 crc s
  | .cmd12 crc => Sys2Proof.Machine.execCmd12 crc s
  | .cmd13 crc => Sys2Proof.Machine.execCmd13 crc s
  | .cmd16 crc => Sys2Proof.Machine.execCmd16 crc s
  | .cmd17 arg crc => Sys2Proof.Machine.execCmd17 arg crc s
  | .cmd18 arg crc => Sys2Proof.Machine.execCmd18 arg crc s
  | .cmd24 arg crc => Sys2Proof.Machine.execCmd24 arg crc s
  | .cmd25 arg crc => Sys2Proof.Machine.execCmd25 arg crc s
  | .cmd55 crc => Sys2Proof.Machine.execCmd55 crc s
  | .acmd41 crc => Sys2Proof.Machine.execAcmd41 crc s
  | .cmd58 crc => Sys2Proof.Machine.execCmd58 crc s
  | .cmd59 useCrc crc => Sys2Proof.Machine.execCmd59 useCrc crc s
  | .r1 status => Sys2Proof.Machine.execR1 status s
  | .r1b status => Sys2Proof.Machine.execR1b status s
  | .r2 status second => Sys2Proof.Machine.execR2 status second s
  | .r3 status ocr => Sys2Proof.Machine.execR3 status ocr s
  | .r7 status other voltage echo => Sys2Proof.Machine.execR7 status other voltage echo s
  | .tokStart => Sys2Proof.Machine.execTokStart s
  | .tokStartMulti => Sys2Proof.Machine.execTokStartMulti s
  | .tokStop => Sys2Proof.Machine.execTokStop s
  | .dataResponse ignored status => Sys2Proof.Machine.execDataResponse ignored status s
  | .dataError bits => Sys2Proof.Machine.execDataError bits s
  | .sdService now cardDetect => Sys2Proof.Machine.execSdService now cardDetect s
  | .read addr count buf cb ctx => Sys2Proof.Machine.execRead addr count buf cb ctx s
  | .write addr count buf cb ctx => Sys2Proof.Machine.execWrite addr count buf cb ctx s
  | .status => Sys2Proof.Machine.execStatus s
  | .capacityBlocks => Sys2Proof.Machine.execCapacityBlocks s
  | .sdState => Sys2Proof.Machine.execSdState s
  | .sdLastError => Sys2Proof.Machine.execSdLastError s
  | .logService now => Sys2Proof.Machine.execLogService now s
  | .log data len => Sys2Proof.Machine.execLog data len s
  | .logGather segments count => Sys2Proof.Machine.execLogGather segments count s
  | .checkout len => Sys2Proof.Machine.execCheckout len s
  | .checkin handle => Sys2Proof.Machine.execCheckin handle s
  | .pause => Sys2Proof.Machine.execPause s
  | .resume => Sys2Proof.Machine.execResume s
  | .setFlightTimestamp utcSeconds => Sys2Proof.Machine.execSetFlightTimestamp utcSeconds s
  | .flightBlocks => Sys2Proof.Machine.execFlightBlocks s
  | .missedCheckouts => Sys2Proof.Machine.execMissedCheckouts s
  | .logState => Sys2Proof.Machine.execLogState s
  | .logFailReason => Sys2Proof.Machine.execLogFailReason s
  | .crc7 data len => Sys2Proof.Machine.execCrc7 data len s
  | .crc16Update crc byte => Sys2Proof.Machine.execCrc16Update crc byte s
  | .crc16 data len => Sys2Proof.Machine.execCrc16 data len s
  | .buildCommand index argument => Sys2Proof.Machine.execBuildCommand index argument s
  | .parseResponse window len expectedLen => Sys2Proof.Machine.execParseResponse window len expectedLen s
  | .csdCapacity csd => Sys2Proof.Machine.execCsdCapacity csd s
  | .mbrIsValid block => Sys2Proof.Machine.execMbrIsValid block s
  | .mbrGetEntry block n => Sys2Proof.Machine.execMbrGetEntry block n s
  | .mbrEntryIsValid entry => Sys2Proof.Machine.execMbrEntryIsValid entry s
  | .mbrEntryType entry => Sys2Proof.Machine.execMbrEntryType entry s
  | .mbrEntryStartLba entry => Sys2Proof.Machine.execMbrEntryStartLba entry s
  | .mbrEntryLength entry => Sys2Proof.Machine.execMbrEntryLength entry s
  | .mbrInitTable block => Sys2Proof.Machine.execMbrInitTable block s
  | .mbrInitEntry block n type start length => Sys2Proof.Machine.execMbrInitEntry block n type start length s
  | .sbIsValid block => Sys2Proof.Machine.execSbIsValid block s
  | .sbVersion block => Sys2Proof.Machine.execSbVersion block s
  | .sbContinued block => Sys2Proof.Machine.execSbContinued block s
  | .sbPartitionLength block => Sys2Proof.Machine.execSbPartitionLength block s
  | .sbFlightGet block slot => Sys2Proof.Machine.execSbFlightGet block slot s
  | .sbFlightSet block slot first num ts => Sys2Proof.Machine.execSbFlightSet block slot first num ts s
  | .sbFlightSlotFor block cont => Sys2Proof.Machine.execSbFlightSlotFor block cont s
  | .sbInit block partLen => Sys2Proof.Machine.execSbInit block partLen s
  | .hdrEncode cls type length => Sys2Proof.Machine.execHdrEncode cls type length s
  | .hdrDecode b0 b1 b2 b3 => Sys2Proof.Machine.execHdrDecode b0 b1 b2 b3 s

end Sys2Proof.Machine
end

