-- ==== Sys2Proof/Machine/Step.lean ====
section
/-! DEFINITION. The step: the next entry of the agenda (log 1). One host call, one wire word or one event of the environment is
one step (R464). -/

namespace Sys2Proof.Machine

/-- One step: take the oldest entry of the agenda; run the instruction it holds, or let the environment act. With an empty
agenda nothing happens. An unassigned host code returns `E_REJECTED` (R157, R507), from irq too, where R468 and R565 would have a
call outside irq's list refused: the code names no operation, so R157's "always" is followed (DESIGN CHOICE, log 35). -/
def step (s : State) : Host.Outcome State Fault Refusal :=
  match s.env.agenda with
  | [] => .next s
  | ev :: rest =>
    let s := s.onEnv fun e => { e with agenda := rest }
    match fetch ev with
    | .run ctx i => if allowed ctx i then exec i (inContext ctx s) else .refused .contextMisuse
    | .unassigned ctx => .next (putCode .rejected (inContext ctx s))
    | .undecodable e => .refused (.undecodable e)
    | .event => toOutcome (environment ev s)

/-- The state whose next step runs the instruction of a word of the opcode table (log 1, 6). -/
def State.withFetchWord (s : State) (nbits w : Nat) : State :=
  s.onEnv fun e => { e with agenda := tableEvent nbits w :: e.agenda }

end Sys2Proof.Machine
end

