-- ==== Sys2Proof/Safety.lean ====
section
/-! DEFINITION. The terms statements are written in: invariants of the state, and the conditions under which a step
completes. -/

namespace Sys2Proof.Machine

/-- The three byte-addressed spaces are in canonical form. -/
def memCanonical (s : State) : Bool := s.mem.host.wf && s.mem.logbuf.wf && s.mem.sbimg.wf

/-- The insertion-point invariant (R56): reserved bits 0, `IDX` 0 or 1, and a non-null word's `OFF` within the buffer. -/
def ipInRange (s : State) : Bool :=
  ipWellFormed s.sh.ip && (!ipValid s.sh.ip || decide (ipOff s.sh.ip ≤ s.cfg.logBufCap))

/-- No irq call arrives at the running call's atomic steps: none is scheduled, or the caller is itself irq, or the critical
section is held (R107, R430, R468). -/
def quiet (s : State) : Bool := s.env.irqs.isEmpty || s.env.ctx == .irq || s.env.critical

/-- A caller's callback, not one of the log engine's. -/
def Cb.isClient : Cb → Bool
  | .client _ => true
  | .logRead => false
  | .logData => false
  | .logSb => false

/-- The log engine is in a terminal state and owes no callback (R399, R552): every operation outstanding, and every callback
requested, is a client's. -/
def logStopped (s : State) : Bool :=
  s.lg.state.terminal && (!s.op.valid || s.op.cb.isClient) &&
    (match s.env.cbQueue with
    | none => true
    | some c => c.cb.isClient)

/-- The `n` bytes at a HOST address exist (R92). -/
def hostReadable (s : State) (addr : HostAddr) (n : Nat) : Bool := inSpace s.cfg .host addr.toNat n

/-- The engine is executing a command, so that its handler is `CMD_PH`'s (R234, R285, R289, R290, R300, R301). -/
def inCommand (s : State) : Bool :=
  (s.sd.state == .init && s.sd.initStep != .clocks && s.sd.initStep != .csd) ||
  atPhase .read .rdCmd s || atPhase .read .rdAbort s ||
  atPhase .write .wrCmd s || atPhase .write .wrStatus s || atPhase .write .wrAbort s

/-- A search transaction is in progress and nothing is retained: the card's next byte is the first the search examines
(R272, R278). -/
def searching (s : State) : Bool :=
  s.sd.xferPending && !s.env.done && s.sd.xferRole == .search && s.sd.rxRetain.isEmpty && !s.sd.rxSkip && s.env.cardDetect

/-- The in-bytes a search transaction brings when the card sends `word` first: its byte clocks filled from the word, then
from what the card says next, then from the fill (R461; log 9). -/
def inBytesAfter (word : List Byte) (s : State) : List Byte :=
  (word ++ s.env.stream).take s.sd.xferInLen ++
    List.replicate (s.sd.xferInLen - (word ++ s.env.stream).length) Config.fill

/-! ## The command set as R131 tabulates it -/

/-- The host codes R157 assigns. -/
def assignedHostCodes : List Nat :=
  [0x01, 0x02, 0x03, 0x04, 0x05, 0x06, 0x07, 0x10, 0x11, 0x12, 0x13, 0x14, 0x15, 0x16, 0x17, 0x18, 0x19, 0x1A, 0x1B] ++
  [0x20, 0x21, 0x22, 0x23, 0x24, 0x25, 0x30, 0x31, 0x32, 0x33, 0x34, 0x35, 0x36, 0x37, 0x38, 0x39, 0x3A, 0x3B, 0x3C] ++
  [0x3D, 0x3E, 0x3F, 0x40, 0x41]

/-- Where R131 has the engine execute a command of its own (the overlapped CMD12 of R287 apart), with the operation's argument
where the command has one (R132). -/
def commandSelected (i : Instr) (s : State) : Bool :=
  match i with
  | .cmd0 _ => atInit .cmd0 s
  | .cmd1 _ => atInit .cmd1 s
  | .cmd8 _ => atInit .cmd8 s
  | .cmd9 _ => atInit .cmd9 s
  | .cmd12 _ => atPhase .read .rdAbort s || atPhase .write .wrAbort s
  | .cmd13 _ => atPhase .write .wrStatus s
  | .cmd16 _ => atInit .cmd16 s
  | .cmd17 arg _ => atPhase .read .rdCmd s && s.op.count == 1 && arg == opArgument s
  | .cmd18 arg _ => atPhase .read .rdCmd s && s.op.count != 1 && arg == opArgument s
  | .cmd24 arg _ => atPhase .write .wrCmd s && s.op.count == 1 && arg == opArgument s
  | .cmd25 arg _ => atPhase .write .wrCmd s && s.op.count != 1 && arg == opArgument s
  | .cmd55 _ => atInit .cmd55 s
  | .acmd41 _ => atInit .acmd41 s
  | .cmd58 _ => atInit .cmd58 s
  | .cmd59 u _ => atInit .cmd59 s && u == BitVec.ofBool s.cfg.useCrc
  | _ => false

/-- The response type R131 gives a command. -/
def commandResponse : Instr → RType
  | .cmd8 _ => .r7
  | .cmd12 _ => .r1b
  | .cmd13 _ => .r2
  | .cmd58 _ => .r3
  | _ => .r1

/-- The commands that run no pre-command busy-poll (R273). -/
def skipsBusyPoll : Instr → Bool
  | .cmd0 _ => true
  | .cmd12 _ => true
  | .cmd13 _ => true
  | _ => false

/-- The first command of the initialisation step a command belongs to (R232). -/
def firstOfStep : Instr → InitStep
  | .cmd1 _ => .cmd1
  | .cmd8 _ => .cmd8
  | .cmd9 _ => .cmd9
  | .cmd16 _ => .cmd16
  | .cmd55 _ => .cmd55
  | .acmd41 _ => .cmd55
  | .cmd58 _ => .cmd58
  | .cmd59 _ _ => .cmd59
  | _ => .cmd0

/-- The engine is about to run the handler of a command it executes, its frame's CRC right and no callback owed. -/
def executing (i : Instr) (ph : CmdPh) (s : State) : Bool :=
  commandSelected i s && frameCrcOk i && engineFree s && s.sd.cmdPh == ph && s.env.cbQueue.isNone

/-- The command has ended with `C_OK`, its whole response in `RESP` (R36, R283). -/
def answered (i : Instr) (s : State) : Bool :=
  executing i .done s && s.sd.cmdOut == .ok && decide (responseLength (commandResponse i) ≤ s.sd.respGot)

/-- The outstanding operation is a client's, whose callback makes no call (R469). -/
def quietClient (s : State) : Bool := s.op.cb.isClient && s.env.cbScript.isEmpty

/-- The state after `finish` and the callback of a client that makes no call: the callback is recorded (R469, R503). -/
def finished (success : Bool) (dest : SdState) (s : State) : State :=
  { s with
    sd := { s.sd with
      session := false, rxRetain := [], rxSkip := false, cmdPh := .idle, opPhase := .none
      lastErr := if success then s.sd.lastErr else s.op.err
      state := dest }
    op := { s.op with valid := false }
    env := { s.env with cbQueue := none, callbacks := s.env.callbacks ++ [⟨s.op.cb, s.op.ctx, if success then 0 else 1, s.op.done⟩] } }

/-- The insertion point of a non-null word stands at the end of what its buffer holds. -/
def ipAtCount (s : State) : Bool :=
  !ipValid s.sh.ip || decide ((s.sh.buf (ipIdx s.sh.ip)).count.toNat = ipOff s.sh.ip)

/-- R57's bound: no buffer counts more than its capacity, nor, where the insertion point is in it, past that point. -/
def countsInRange (s : State) : Bool :=
  decide (s.sh.buf0.count.toNat ≤ s.cfg.logBufCap) && decide (s.sh.buf1.count.toNat ≤ s.cfg.logBufCap) &&
    (!ipValid s.sh.ip || decide ((s.sh.buf (ipIdx s.sh.ip)).count.toNat ≤ ipOff s.sh.ip))

/-- The producer calls that reserve bytes (R431, R436, R437). -/
def reserves : Instr → Bool
  | .checkout _ => true
  | .log _ _ => true
  | .logGather _ _ => true
  | _ => false

/-- Of the irq calls scheduled before each atomic step of main, at most one reserves bytes. -/
def oneGrantPerStep (s : State) : Bool := s.env.irqs.all fun batch => decide ((batch.filter reserves).length ≤ 1)

/-- At a step boundary the critical section is not held and no callback is owed (R107, R503). -/
def atBoundary (s : State) : Bool := !s.env.critical && s.env.cbQueue.isNone

/-- A `le32` field at an address of a space. -/
def field32 (s : State) (sp : Space) (a : Nat) : U32 :=
  pack32 (s.peek sp (a + 3)) (s.peek sp (a + 2)) (s.peek sp (a + 1)) (s.peek sp a)

/-- The state after a step failure of initialisation (R232): `first` is the step's first command. -/
def stepFailed (first : InitStep) (e : Err) (s : State) : State :=
  { s with
    sd := { s.sd with
      lastErr := e
      retryCnt := s.sd.retryCnt + 1
      state := if s.cfg.retryCeiling < s.sd.retryCnt + 1 then .failRetries else s.sd.state
      initStep := if s.cfg.retryCeiling < s.sd.retryCnt + 1 then s.sd.initStep else first } }

/-- The session closed and the command's sub-state idle, as a command step leaves them (R234). -/
def commandEnded (s : State) : State := { s with sd := { s.sd with session := false, cmdPh := .idle } }

/-- An operation's first error is kept (R503). -/
def withError (e : Err) (s : State) : State := { s with op := { s.op with err := if s.op.err = .ok then e else s.op.err } }

/-- The state after the card sent `word` on a search transaction and the search took its first `n` bytes (R272, R278). -/
def received (n : Nat) (word : List Byte) (s : State) : State :=
  { s with
    sd := { s.sd with xferPending := false, rxRetain := (inBytesAfter word s).drop n }
    env := { s.env with
      done := true
      inBytes := inBytesAfter word s
      stream := (word ++ s.env.stream).drop s.sd.xferInLen } }

/-- A transaction submitted and accepted (R461). -/
def transacting (out : List Byte) (role : XferRole) (s : State) : State :=
  { s with
    sd := { s.sd with xferPending := true, xferOut := out, xferInLen := out.length, xferRole := role }
    env := { s.env with done := false } }

/-- A block operation accepted (R311, R312): every register it writes. -/
def opAccepted (dir : OpDir) (addr count : U32) (buf : Ptr) (cb : Cb) (ctx : U32) (s : State) : State :=
  { s with
    op := { s.op with
      valid := true, dir := dir, addr := addr, count := count, buf := buf, cb := cb, ctx := ctx
      len := 512, idx := 0, done := 0, err := .ok }
    sd := { s.sd with
      state := if dir = .read then .read else .write
      opPhase := if dir = .read then .rdCmd else .wrCmd
      cmdPh := .idle } }

/-- The inputs of a service poll latched (R466, R467). -/
def polled (now : U32) (cardDetect : Bool) (s : State) : State :=
  { s with env := { s.env with now := now, cardDetect := cardDetect || !s.cfg.hasCardDetect } }

/-- The card is present at a poll (R467). -/
def present (cardDetect : Bool) (s : State) : Bool := cardDetect || !s.cfg.hasCardDetect

/-- The inputs of a log engine's poll latched (R466). -/
def ticked (now : U32) (s : State) : State := { s with env := { s.env with now := now } }

/-- The poll of the log engine has nothing to do (R382, R388, R389, R398, R399): a terminal or pending state, a write in flight, a
pause that the device allows, or a block to read while the device is not ready and not terminal (R381). -/
def logWaits (s : State) : Bool :=
  s.lg.state.terminal || s.lg.state == .ptPending || s.lg.state == .sbPending ||
  (s.lg.state == .active && s.lg.wif != .none) ||
  (s.lg.state == .paused && (s.lg.wif != .none || !s.sd.state.terminal)) ||
  ((s.lg.state == .acqPt || s.lg.state == .acqSb) && s.sd.state != .ready && !s.sd.state.terminal)

/-- The log engine in a terminal state with its cause (R506). -/
def logEnded (st : LogState) (e : Err) (s : State) : State := { s with lg := { s.lg with state := st, failReason := e } }

/-- The log engine may start a write at this poll: active, none in flight, the device ready (R389). -/
def logFree (s : State) : Bool := s.lg.state == .active && s.lg.wif == .none && s.sd.state == .ready

/-- Partition entry `n` in SB_IMG is one the log engine uses (R342, R343, R383). -/
def logEntry (s : State) (n : Nat) : Prop := s.peek .sbimg (446 + 16 * n + 4) = Config.partType

/-- A flight is selected wherever the log engine relies on one (R49, R59): active, paused, or owed a persist's callback. -/
def flightHeld (s : State) : Bool :=
  s.lg.flightValid ||
    (s.lg.state != .active && s.lg.state != .paused && !(s.op.valid && s.op.cb == .logSb) &&
      (match s.env.cbQueue with
      | none => true
      | some c => c.cb != .logSb))

/-! ## The drain (R390-R393) -/

/-- `BUF[i].PENDING` after the drain's marks at a poll (R390): as it was, or within the watermark of full (a difference that wraps,
R15), or aged, which only an active buffer that holds bytes can be. -/
def pendingAt (now : U32) (i : Nat) (s : State) : Bool :=
  (s.sh.buf i).pending ||
  decide (BitVec.ofNat 32 s.cfg.logBufCap - (s.sh.buf i).count ≤ s.cfg.watermark) ||
  (ipValid s.sh.ip && ipIdx s.sh.ip == i && decide (s.cfg.dataAgeIntervalMs < now - s.lg.tLastData) &&
    (s.sh.buf i).count != 0)

/-- The shared fields after the drain's marks (R390): an active buffer that is pending leaves the insertion point null. -/
def markedAt (now : U32) (s : State) : Shared :=
  { s.sh with
    ip := if ipValid s.sh.ip && pendingAt now (ipIdx s.sh.ip) s then ipNull s.sh.ip else s.sh.ip
    buf0 := { s.sh.buf0 with pending := pendingAt now 0 s }
    buf1 := { s.sh.buf1 with pending := pendingAt now 1 s } }

/-- Buffer `i` may be written at a poll: pending, and checked in by every producer (R391). -/
def selectableAt (now : U32) (i : Nat) (s : State) : Bool := pendingAt now i s && (s.sh.buf i).checkouts == 0

/-- The drain selects buffer `b`, the lowest that may be written (R391). -/
def selectedAt (now : U32) (b : Nat) (s : State) : Prop :=
  b = 0 ∧ selectableAt now 0 s = true ∨ b = 1 ∧ selectableAt now 0 s = false ∧ selectableAt now 1 s = true

/-- The bytes that fill the last block of `c` bytes (R392): a spacer header and zeros, or zeros alone in 1 to 3 bytes. -/
def tailPad (p : Params) (c : Nat) : List Byte :=
  let n := 512 * ((c + 511) / 512) - c
  if 4 ≤ n then
    [p.spacerType.extractLsb' 0 2 ++ p.spacerClass, p.spacerType.extractLsb' 2 8, BitVec.ofNat 8 (n - 4),
      BitVec.ofNat 8 ((n - 4) / 256)] ++ List.replicate (n - 4) 0
  else List.replicate n 0

/-- The state after the marks of a poll and the padding of buffer `b`, whose count grows to a block boundary (R390-R392). -/
def paddedAt (now : U32) (b : Nat) (s : State) : State :=
  State.poke
    { s with
      env := { s.env with now := now }
      sh := (markedAt now s).setBuf b fun x => { x with count := BitVec.ofNat 32 (512 * ((x.count.toNat + 511) / 512)) } }
    .logbuf (b * s.cfg.logBufCap + (s.sh.buf b).count.toNat) (tailPad s.cfg (s.sh.buf b).count.toNat)

/-- A poll of the log engine whose active state goes to the drain (R389): the device ready, no write in flight, no persist owed or
due, and no irq to arrive. -/
def drainsAt (now : U32) (s : State) : Bool :=
  logFree s && !s.lg.oosPending && !s.lg.pauseReq && decide (now - s.lg.tLastPersist ≤ s.cfg.sbPersistIntervalMs) &&
    ipWellFormed s.sh.ip && s.env.irqs.isEmpty && s.env.ctx == .main && !s.env.critical

/-! ## The searches of an operation (R284, R288, R291, R295-R297, R299) -/

/-- What the search of a phase looks for. -/
inductive Sought where
  /-- the ready byte of a busy-poll (R144, R274) -/
  | readyByte
  /-- a start token or a data-error token (R284) -/
  | readToken
  /-- a data response (R295) -/
  | dataResponse
  /-- the response to the overlapped CMD12 (R288) -/
  | stopResponse
deriving DecidableEq, Repr

/-- A byte ends the search. -/
def Sought.found : Sought → Byte → Bool
  | .readyByte, b => b == 0xFF
  | .readToken, b => b == 0xFE || b.extractLsb' 4 4 == 0#4
  | .dataResponse, b => b.getLsbD 0 && !b.getLsbD 4
  | .stopResponse, b => !b.getLsbD 7

/-- The search's window (R272, R284, R288, R291, R295): the command timeout for a response, the busy timeout for the rest. -/
def Sought.window (p : Params) : Sought → U32
  | .readyByte => p.busyTimeoutMs
  | .readToken => p.busyTimeoutMs
  | .dataResponse => p.cmdTimeoutMs
  | .stopResponse => p.cmdTimeoutMs

/-- The phase the control tuple is in searches for this. -/
def seeks (x : Sought) (s : State) : Bool :=
  match x with
  | .readyByte =>
    atPhase .write .wrBusy s || atPhase .write .wrFinalBusy s || atPhase .write .wrStopBusy s || atPhase .write .wrStopPostBusy s
  | .readToken => atPhase .read .rdToken s || (atInit .csd s && s.sd.opPhase == .rdToken)
  | .dataResponse => atPhase .write .wrDresp s
  | .stopResponse => atPhase .read .rdStop s

/-- The engine may run a handler, with no command ended and no callback owed. -/
def idleEngine (s : State) : Bool := engineFree s && s.sd.cmdPh != .done && s.env.cbQueue.isNone

end Sys2Proof.Machine
end

