-- ==== Sys2Proof/Certificates/Slice0/Obligations.lean ====
section
/-! DEFINITION. The statements for the provers. Each docstring names the rules a statement formalises; a convention of the
model's own is named by its log entry (notes/assumptions). -/

section
open Sys2Proof Sys2Proof.Machine

/-! ## Encoding -/

/-- Decoding the encoding of an instruction gives it back, with every operand at every value, and whatever follows the word is
left over (30_encoding.md; the operands of a call record: log 5). The start token stands in reads and in writes (R140). -/
def Obligations.DecodeEncodeRoundTrip : Prop :=
  (∀ (i : Instr) (rest : List Byte), decode (formatOf i) (encode i ++ rest) = .ok (i, rest)) ∧
  (∀ rest : List Byte, decode .writeToken (encode .tokStart ++ rest) = .ok (.tokStart, rest))

/-- A word that decodes is the encoding of what it decodes to: no bit of a word is dropped in any format. -/
def Obligations.DecodedWordIsEncoding : Prop :=
  ∀ (f : Format) (b rest : List Byte) (i : Instr), decode f b = .ok (i, rest) → b = encode i ++ rest

/-- R207: bits 7 to 1 of byte 5 of every frame `build_command` builds are the CRC-7 of bytes 0 to 4, and its bit 0 is 1. -/
def Obligations.FramesCarryTheirCrc : Prop :=
  ∀ (index : BitVec 6) (argument : U32),
    (buildCommandBytes index argument).length = 6 ∧
    byteAt (buildCommandBytes index argument) 5 >>> 1 = (0#1) ++ crc7Bytes ((buildCommandBytes index argument).take 5) ∧
    byteAt (buildCommandBytes index argument) 5 &&& 1 = 1 ∧
    ∀ s : State, exec (.buildCommand (index.setWidth 32) argument) s = .next (putRet (.bytes (buildCommandBytes index argument)) s)

/-- Words written out from the rules' own examples decode to the instructions they stand for (R235, R236, R242, R245, R285,
R290, R140-R142, R157). -/
def Obligations.SpecWordsDecode : Prop :=
  decode .frame [0x40, 0x00, 0x00, 0x00, 0x00, 0x95] = .ok (.cmd0 0x4A, []) ∧
  decode .frame [0x48, 0x00, 0x00, 0x01, 0xAA, 0x87] = .ok (.cmd8 0x43, []) ∧
  decode .frame [0x50, 0x00, 0x00, 0x02, 0x00, 0x15] = .ok (.cmd16 0x0A, []) ∧
  decode .frame [0x51, 0x20, 0x00, 0x00, 0x00, 0x95] = .ok (.cmd17 0x20000000 0x4A, []) ∧
  decode .frame [0x58, 0x00, 0x00, 0x08, 0x00, 0xDF] = .ok (.cmd24 0x800 0x6F, []) ∧
  decode (.resp .r3) [0x00, 0xC0, 0xFF, 0x80, 0x00] = .ok (.r3 0 0xC0FF8000, []) ∧
  decode (.resp .r7) [0x01, 0x00, 0x00, 0x01, 0xAA] = .ok (.r7 1 0 1 0xAA, []) ∧
  decode .readToken [0xFE] = .ok (.tokStart, []) ∧
  decode .readToken [0x08] = .ok (.dataError 8, []) ∧
  decode .writeToken [0xFC] = .ok (.tokStartMulti, []) ∧
  decode .writeToken [0xFD] = .ok (.tokStop, []) ∧
  decode .dataResp [0xE5] = .ok (.dataResponse 7 2, []) ∧
  decode .hostop [0x04] = .ok (.status, []) ∧
  decode .hostop [0x13, 0xD0, 0x07, 0x00, 0x00] = .ok (.checkout 2000, [])

/-- A step runs the decoded instruction: where the next entry of the agenda is a word of a format (or a call record of a context
that may make it), the step takes the entry and is `exec` of the instruction. `withFetchWord` places a word of the opcode table
there (log 1, 6). -/
def Obligations.StepRunsDecoded : Prop :=
  (∀ (s : State) (f : Format) (word more : List Byte) (i : Instr) (rest : List Event),
    decode f word = .ok (i, more) → s.env.agenda = .wire f word :: rest →
    step s = exec i { s with env := { s.env with agenda := rest, ctx := .main } }) ∧
  (∀ (s : State) (ctx : Ctx) (record more : List Byte) (i : Instr) (rest : List Event),
    decode .hostop record = .ok (i, more) → s.env.agenda = .call ctx record :: rest → (ctx = .irq → isProducer i = true) →
    step s = exec i { s with env := { s.env with agenda := rest, ctx := ctx } }) ∧
  (∀ (s : State) (nbits w : Nat) (i : Instr), decodeTableWord nbits w = some i →
    step (s.withFetchWord nbits w) = exec i { s with env := { s.env with ctx := .main } })

/-! ## The command/CRC layer (host codes 0x20 to 0x25) -/

/-- R201: the table form of CRC-7 gives the same result for every input, and the table's first entries. -/
def Obligations.Crc7TableForm : Prop :=
  (∀ b : List Byte, crc7Bytes b = b.foldl (fun (c : BitVec 7) x => crc7Bytes [(c ++ (0#1)) ^^^ x]) 0) ∧
  (List.range 16).map (fun i => (0#1) ++ crc7Bytes [BitVec.ofNat 8 i]) =
    ([0x00, 0x09, 0x12, 0x1B, 0x24, 0x2D, 0x36, 0x3F, 0x48, 0x41, 0x5A, 0x53, 0x6C, 0x65, 0x7E, 0x77] : List Byte)

/-- R200, R203, R204, R205: what the four CRC and frame operations return; nothing else changes. `crc16_update` is given in the
table form of R203 with entries of its table, the others byte by byte. And R286's zero residue: the CRC-16 over a payload and two
CRC bytes, high byte first, is 0 exactly when they are the payload's CRC-16. A byte sequence operand is a HOST address and a
length (log 5). -/
def Obligations.CommandLayerValues : Prop :=
  (∀ (s : State) (data : HostAddr) (len : U32), hostReadable s data len.toNat = true →
    exec (.crc7 data len) s = .next (putRet (.byte ((0#1) ++
      ((List.range len.toNat).map fun k => s.peek .host (data.toNat + k)).foldl (fun c b => crc7Byte c b) 0)) s)) ∧
  (∀ (s : State) (data : HostAddr) (len : U32), hostReadable s data len.toNat = true →
    exec (.crc16 data len) s = .next (putRet (.half
      (((List.range len.toNat).map fun k => s.peek .host (data.toNat + k)).foldl (fun c b => crc16UpdateByte c b) 0)) s)) ∧
  (∀ (s : State) (crc : U16) (byte : Byte),
    exec (.crc16Update crc byte) s =
      .next (putRet (.half ((crc <<< 8) ^^^ crc16UpdateByte 0 (crc.extractLsb' 8 8 ^^^ byte))) s)) ∧
  (∀ (s : State) (i : Nat) (entry : U16),
    (i, entry) ∈ ([(0x00, 0x0000), (0x01, 0x1021), (0x02, 0x2042), (0x03, 0x3063), (0x04, 0x4084), (0x05, 0x50A5), (0x06, 0x60C6),
      (0x07, 0x70E7), (0x80, 0x9188), (0xFF, 0x1EF0)] : List (Nat × U16)) →
    exec (.crc16Update 0 (BitVec.ofNat 8 i)) s = .next (putRet (.half entry) s)) ∧
  (∀ (payload : List Byte) (crc : U16), crc16Bytes (payload ++ be16Bytes crc) = 0 ↔ crc = crc16Bytes payload) ∧
  (∀ (s : State) (index argument : U32),
    exec (.buildCommand index argument) s = .next (putRet (.bytes
      [0x40#8 ||| (index.extractLsb' 0 6).setWidth 8, argument.extractLsb' 24 8, argument.extractLsb' 16 8,
        argument.extractLsb' 8 8, argument.extractLsb' 0 8,
        (crc7Bytes [0x40#8 ||| (index.extractLsb' 0 6).setWidth 8, argument.extractLsb' 24 8, argument.extractLsb' 16 8,
          argument.extractLsb' 8 8, argument.extractLsb' 0 8]).setWidth 8 <<< 1 ||| 1]) s))

/-- R206: `parse_response` finds the first byte whose high bit is 0, and says whether the response is whole; with none it is not
found. -/
def Obligations.ParseResponseFindsFirst : Prop :=
  ∀ (s : State) (window : HostAddr) (len : U32) (expectedLen : Byte), hostReadable s window len.toNat = true →
    (∀ k : Nat, k < len.toNat → (s.peek .host (window.toNat + k)).getLsbD 7 = false →
      (∀ j : Nat, j < k → (s.peek .host (window.toNat + j)).getLsbD 7 = true) →
      exec (.parseResponse window len expectedLen) s =
        .next (putRet (.found k (decide (k + expectedLen.toNat ≤ len.toNat))) s)) ∧
    ((∀ j : Nat, j < len.toNat → (s.peek .host (window.toNat + j)).getLsbD 7 = true) →
      exec (.parseResponse window len expectedLen) s = .next (putRet .notFound s))

/-- R139, R249: the capacity of a CSD from its bytes. Version 0 takes `READ_BL_LEN` from byte 5, `C_SIZE` from bytes 6 to 8 and
`C_SIZE_MULT` from bytes 9 and 10; version 1 takes `C_SIZE` from bytes 7 to 9; versions 2 and 3 are invalid. And R115, R117, R250: on a
card whose capacity was capped by R250 the argument of every admitted block address is exact. The CSD is at a HOST address
(log 5). -/
def Obligations.CsdCapacityValue : Prop :=
  (∀ (blockAddr : Bool) (decoded addr count : U32), count ≠ 0 →
    addr.toNat + count.toNat ≤ (capCapacity blockAddr decoded).toNat →
    (cardArg blockAddr addr).toNat = if blockAddr then addr.toNat else addr.toNat * 512) ∧
  ∀ (s : State) (csd : HostAddr), hostReadable s csd 16 = true →
    let b := fun k => s.peek .host (csd.toNat + k)
    ((b 0).extractLsb' 6 2 = 0#2 →
      exec (.csdCapacity csd) s = .next (putRet (.word (BitVec.ofNat 32 (min
        (((((b 6).extractLsb' 0 2 ++ b 7 ++ (b 8).extractLsb' 6 2).toNat + 1) *
          2 ^ (((b 9).extractLsb' 0 2 ++ (b 10).extractLsb' 7 1).toNat + 2) * 2 ^ ((b 5).extractLsb' 0 4).toNat) / 512)
        0xFFFFFFFF))) s)) ∧
    ((b 0).extractLsb' 6 2 = 1#2 →
      exec (.csdCapacity csd) s = .next (putRet (.word (BitVec.ofNat 32 (min
        ((((b 7).extractLsb' 0 6 ++ b 8 ++ b 9).toNat + 1) * 1024) 0xFFFFFFFF))) s)) ∧
    ((b 0).extractLsb' 7 1 = 1#1 → exec (.csdCapacity csd) s = .next (putRet .invalid s))

/-! ## The codecs (host codes 0x30 to 0x41). A block or entry operand is a HOST address (log 16). -/

/-- R340-R345, R350-R353: the partition-table and superblock queries, byte by byte; nothing else changes. An entry index above 3 is
refused. -/
def Obligations.BlockQueries : Prop :=
  (∀ (s : State) (block entry : HostAddr) (n : U32),
    (hostReadable s block 512 = true → exec (.mbrIsValid block) s = .next (putRet (.bool
      (s.peek .host (block.toNat + 510) == 0x55 && s.peek .host (block.toNat + 511) == 0xAA)) s)) ∧
    (3 < n.toNat → exec (.mbrGetEntry block n) s = .next (putRet (.code .rejected) s)) ∧
    (n.toNat ≤ 3 → hostReadable s block 512 = true → exec (.mbrGetEntry block n) s = .next (putRet
      (.view (block.toNat + (446 + 16 * n.toNat))
        ((List.range 16).map fun k => s.peek .host (block.toNat + (446 + 16 * n.toNat) + k))) s)) ∧
    (hostReadable s entry 16 = true →
      exec (.mbrEntryIsValid entry) s = .next (putRet (.bool (s.peek .host (entry.toNat + 4) != 0)) s) ∧
      exec (.mbrEntryType entry) s = .next (putRet (.byte (s.peek .host (entry.toNat + 4))) s) ∧
      exec (.mbrEntryStartLba entry) s = .next (putRet (.word (field32 s .host (entry.toNat + 8))) s) ∧
      exec (.mbrEntryLength entry) s = .next (putRet (.word (field32 s .host (entry.toNat + 12))) s))) ∧
  (∀ (s : State) (block : HostAddr), hostReadable s block 512 = true →
    exec (.sbIsValid block) s = .next (putRet (.bool ((List.range 8).all fun k =>
      s.peek .host (block.toNat + k) == byteAt Config.sbMagic k &&
      s.peek .host (block.toNat + 504 + k) == byteAt Config.sbMagic k)) s) ∧
    exec (.sbVersion block) s = .next (putRet (.byte (s.peek .host (block.toNat + 8))) s) ∧
    exec (.sbContinued block) s = .next (putRet (.bool ((s.peek .host (block.toNat + 9)).getLsbD 0)) s) ∧
    exec (.sbPartitionLength block) s = .next (putRet (.word (field32 s .host (block.toNat + 12))) s))

/-- R346, R347: the partition-table writers. `mbr_init_table` leaves 510 zeros and the signature, so the table is then valid;
`mbr_init_entry` writes the 16 bytes of its entry, from which every value reads back; no other byte, register or space changes. -/
def Obligations.PartitionTableWriters : Prop :=
  ∀ (s : State) (block : HostAddr) (n : U32) (type : Byte) (start length : U32), s.mem.host.wf = true →
    hostReadable s block 512 = true →
    (∃ t, exec (.mbrInitTable block) s = .next t ∧ { t with mem := s.mem } = putRet .none s ∧
      (∀ k, k < 510 → t.peek .host (block.toNat + k) = 0) ∧
      t.peek .host (block.toNat + 510) = 0x55 ∧ t.peek .host (block.toNat + 511) = 0xAA ∧
      (∀ sp a, sp ≠ .host ∨ a < block.toNat ∨ block.toNat + 512 ≤ a → t.peek sp a = s.peek sp a) ∧
      exec (.mbrIsValid block) t = .next (putRet (.bool true) t)) ∧
    (3 < n.toNat → exec (.mbrInitEntry block n type start length) s = .next (putRet (.code .rejected) s)) ∧
    (n.toNat ≤ 3 → ∃ t, exec (.mbrInitEntry block n type start length) s = .next t ∧
      { t with mem := s.mem } = putRet (.code .ok) s ∧
      (∀ k, k < 8 → t.peek .host (block.toNat + 446 + 16 * n.toNat + k) = if k = 4 then type else 0) ∧
      field32 t .host (block.toNat + 446 + 16 * n.toNat + 8) = start ∧
      field32 t .host (block.toNat + 446 + 16 * n.toNat + 12) = length ∧
      (∀ sp a, sp ≠ .host ∨ a < block.toNat + 446 + 16 * n.toNat ∨ block.toNat + 462 + 16 * n.toNat ≤ a →
        t.peek sp a = s.peek sp a))

/-- R354, R355: flight records. `sb_flight_get` reads the three fields of slot `i`; `sb_flight_set` writes its 12 bytes, from which
they read back, and no other byte, register or space; a slot above 31 is refused. R356: `sb_flight_slot_for` returns the lowest slot whose
`first_block` is 0, fresh, or the slot before it, to continue; with no free slot the last one continues, or there is none. Fresh is
0, continued 1. -/
def Obligations.FlightRecords : Prop :=
  (∀ (s : State) (block : HostAddr) (i first num ts : U32),
    (31 < i.toNat → exec (.sbFlightGet block i) s = .next (putRet (.code .rejected) s) ∧
      exec (.sbFlightSet block i first num ts) s = .next (putRet (.code .rejected) s)) ∧
    (i.toNat ≤ 31 → hostReadable s block 512 = true →
      exec (.sbFlightGet block i) s = .next (putRet (.flight (field32 s .host (block.toNat + (96 + 12 * i.toNat)))
        (field32 s .host (block.toNat + (100 + 12 * i.toNat))) (field32 s .host (block.toNat + (104 + 12 * i.toNat)))) s)) ∧
    (i.toNat ≤ 31 → hostReadable s block 512 = true → s.mem.host.wf = true →
      ∃ t, exec (.sbFlightSet block i first num ts) s = .next t ∧ { t with mem := s.mem } = putRet (.code .ok) s ∧
        field32 t .host (block.toNat + (96 + 12 * i.toNat)) = first ∧
        field32 t .host (block.toNat + (100 + 12 * i.toNat)) = num ∧
        field32 t .host (block.toNat + (104 + 12 * i.toNat)) = ts ∧
        (∀ sp a, sp ≠ .host ∨ a < block.toNat + (96 + 12 * i.toNat) ∨ block.toNat + (108 + 12 * i.toNat) ≤ a →
          t.peek sp a = s.peek sp a))) ∧
  (∀ (s : State) (block : HostAddr) (cont : Bool), hostReadable s block 512 = true →
    (∀ f : Nat, f < 32 → field32 s .host (block.toNat + (96 + 12 * f)) = 0 →
      (∀ j, j < f → field32 s .host (block.toNat + (96 + 12 * j)) ≠ 0) →
      exec (.sbFlightSlotFor block cont) s =
        .next (putRet (if cont = true ∧ f ≠ 0 then .slot (f - 1) 1 else .slot f 0) s)) ∧
    ((∀ j, j < 32 → field32 s .host (block.toNat + (96 + 12 * j)) ≠ 0) →
      exec (.sbFlightSlotFor block cont) s =
        .next (putRet (if cont then .slot 31 1 else .code .noFreeSlot) s)))

/-- R357: `sb_init` builds an empty superblock: both magics, the version, the partition length, zeros elsewhere; it is then valid,
and its slot 0 starts fresh. No other byte, register or space changes. -/
def Obligations.SuperblockInit : Prop :=
  ∀ (s : State) (block : HostAddr) (partLen : U32), s.mem.host.wf = true → hostReadable s block 512 = true →
    ∃ t, exec (.sbInit block partLen) s = .next t ∧ { t with mem := s.mem } = putRet .none s ∧
      (∀ k, k < 8 → t.peek .host (block.toNat + k) = byteAt Config.sbMagic k ∧
        t.peek .host (block.toNat + 504 + k) = byteAt Config.sbMagic k) ∧
      t.peek .host (block.toNat + 8) = s.cfg.sbVersion ∧ field32 t .host (block.toNat + 12) = partLen ∧
      (∀ k, (9 ≤ k ∧ k < 12) ∨ (16 ≤ k ∧ k < 504) → t.peek .host (block.toNat + k) = 0) ∧
      (∀ sp a, sp ≠ .host ∨ a < block.toNat ∨ block.toNat + 512 ≤ a → t.peek sp a = s.peek sp a) ∧
      exec (.sbIsValid block) t = .next (putRet (.bool true) t) ∧
      exec (.sbFlightSlotFor block true) t = .next (putRet (.slot 0 0) t)

/-- R360, R361: the record header's bytes, the decoder's fields, and the decoder is the inverse of the encoder for in-range
operands; higher bits are dropped. -/
def Obligations.RecordHeader : Prop :=
  (∀ (s : State) (cls type length : U16), ∃ b0 b1 b2 b3 : Byte,
    exec (.hdrEncode cls type length) s = .next (putRet (.bytes [b0, b1, b2, b3]) s) ∧
    b0 = type.extractLsb' 0 2 ++ cls.extractLsb' 0 6 ∧ b1 = type.extractLsb' 2 8 ∧
    b2 = length.extractLsb' 0 8 ∧ b3 = length.extractLsb' 8 8 ∧
    exec (.hdrDecode b0 b1 b2 b3) s = .next (putRet (.header (cls.setWidth 6) (type.setWidth 10) length) s)) ∧
  (∀ (s : State) (b0 b1 b2 b3 : Byte),
    exec (.hdrDecode b0 b1 b2 b3) s = .next (putRet (.header (b0.extractLsb' 0 6) (b1 ++ b0.extractLsb' 6 2) (b3 ++ b2)) s)) ∧
  (∀ (cls type length : U16) (b0 b1 b2 b3 : Byte),
    (encode (.hdrEncode cls type length)).head? = some 0x40 ∧ (encode (.hdrDecode b0 b1 b2 b3)).head? = some 0x41)

/-! ## Concurrent reservation and the producers (host codes 0x11 to 0x14, 0x18, 0x19) -/

/-- R431, R432, R507, R508: the refusals of `checkout`. A length of 0 or above the capacity is refused before any atomic step, in
every state and context. In a quiet state, with no buffer to switch to, the call is refused for want of space and counted in
`MISSED`, its only effect: from a null word neither buffer is empty, from a full one the other is not. -/
def Obligations.CheckoutRefused : Prop :=
  ∀ (s : State) (len : U32),
    (len = 0 ∨ s.cfg.logBufCap < len.toNat → exec (.checkout len) s = .next (putRet (.code .rejected) s)) ∧
    (len ≠ 0 → len.toNat ≤ s.cfg.logBufCap → quiet s = true → ipWellFormed s.sh.ip = true →
      (ipValid s.sh.ip = true → s.cfg.logBufCap < ipOff s.sh.ip + len.toNat) →
      (s.sh.buf (1 - ipIdx s.sh.ip)).count ≠ 0 →
      (ipValid s.sh.ip = false → (s.sh.buf (ipIdx s.sh.ip)).count ≠ 0) →
      exec (.checkout len) s =
        .next (putRet (.code .outOfSpace) { s with sh := { s.sh with missed := s.sh.missed + 1 } }))

/-- R431 steps 2 to 10 in a quiet state. With room in the active buffer `checkout` moves the offset past the grant, counts the bytes
and the checkout in that buffer, and returns the position before. Where the insertion point is null, or its buffer too full, it
goes to the first empty candidate `j`, marks a vacated buffer that holds bytes, and grants from offset 0 there. Nothing else
changes. -/
def Obligations.CheckoutGrants : Prop :=
  (∀ (s : State) (len : U32), len ≠ 0 → quiet s = true → ipWellFormed s.sh.ip = true → ipValid s.sh.ip = true →
    ipOff s.sh.ip + len.toNat ≤ s.cfg.logBufCap →
    exec (.checkout len) s = .next (putRet (.word (handleOf s.cfg.logBufCap (ipIdx s.sh.ip) (ipOff s.sh.ip)))
      { s with sh := { s.sh.setBuf (ipIdx s.sh.ip) (fun b => { b with count := b.count + len, checkouts := b.checkouts + 1 }) with
          ip := mkIp true (ipIdx s.sh.ip) (ipOff s.sh.ip + len.toNat) } })) ∧
  (∀ (s : State) (len : U32) (j : Nat), len ≠ 0 → len.toNat ≤ s.cfg.logBufCap → quiet s = true →
    ipWellFormed s.sh.ip = true → (s.sh.buf j).count = 0 →
    (if ipValid s.sh.ip then s.cfg.logBufCap < ipOff s.sh.ip + len.toNat ∧ j = 1 - ipIdx s.sh.ip
     else j = 1 - ipIdx s.sh.ip ∨ (j = ipIdx s.sh.ip ∧ (s.sh.buf (1 - ipIdx s.sh.ip)).count ≠ 0)) →
    exec (.checkout len) s = .next (putRet (.word (handleOf s.cfg.logBufCap j 0))
      { s with sh :=
        { (s.sh.setBuf (1 - j) (fun b =>
              { b with pending := b.pending || (ipValid s.sh.ip && b.count != 0) })).setBuf j
            (fun b => { b with count := len, checkouts := b.checkouts + 1 }) with
          ip := mkIp true j len.toNat } }))

/-- R277, R388, R443: the calls with a loop return, whatever irq calls arrive at their atomic steps: the bounds on the rounds of a
`checkout` and of the service polls are never reached (log 20). -/
def Obligations.CallsReturn : Prop :=
  (∀ (s : State) (len : U32), exec (.checkout len) s ≠ .fault .checkoutBound) ∧
  (∀ (s : State) (now : U32) (cardDetect : Bool), exec (.sdService now cardDetect) s ≠ .fault .pollBound) ∧
  (∀ (s : State) (now : U32), exec (.logService now) s ≠ .fault .pollBound)

/-- R433, R442: the grants of a main `checkout` that irq calls preempt. Whatever irq calls arrive, a handle main is granted names
bytes within one buffer. Where they are `checkout` calls in any batches, and the insertion point starts in range and at its
buffer's count, irq's grants are pairwise disjoint, and main's is disjoint from each of them if it does not start its buffer, or
if at most one irq call arrives, or at most one at each atomic step: the interleaving R431 leaves open is log 33's. -/
def Obligations.ConcurrentGrants : Prop :=
  (∀ (s t : State) (len h : U32), s.cfg.wf = true → s.env.ctx = .main →
    exec (.checkout len) s = .next t → t.env.ret = .word h →
    ∃ i off, i < Config.nBuf ∧ h.toNat = i * s.cfg.logBufCap + off ∧ off + len.toNat ≤ s.cfg.logBufCap) ∧
  (∀ (s t : State) (len : U32) (batches : List (List U32)), s.cfg.wf = true → ipInRange s = true → ipAtCount s = true →
    s.env.ctx = .main → s.env.irqRets = [] → s.env.irqs = batches.map (·.map Instr.checkout) →
    exec (.checkout len) s = .next t →
    (∀ (m n : Nat) (hm hn lm ln : U32), m < n → batches.flatten[m]? = some lm → batches.flatten[n]? = some ln →
      t.env.irqRets[m]? = some (.word hm) → t.env.irqRets[n]? = some (.word hn) →
      hm.toNat + lm.toNat ≤ hn.toNat ∨ hn.toNat + ln.toNat ≤ hm.toNat) ∧
    (∀ (n : Nat) (h hn ln : U32), t.env.ret = .word h → batches.flatten[n]? = some ln → t.env.irqRets[n]? = some (.word hn) →
      h.toNat % s.cfg.logBufCap ≠ 0 ∨ t.env.irqRets.length ≤ 1 ∨ oneGrantPerStep s = true →
      h.toNat + len.toNat ≤ hn.toNat ∨ hn.toNat + ln.toNat ≤ h.toNat))

/-- R433, R442: grants made one after another are disjoint. From a state whose insertion point is in range and stands at its buffer's count, any run of
`checkout` calls (made one after another, as irq makes them) is granted pairwise disjoint byte ranges. -/
def Obligations.GrantsAreDisjoint : Prop :=
  ∀ (s t : State) (lens : List U32), s.cfg.wf = true → ipInRange s = true → ipAtCount s = true →
    s.env.ctx = .irq → s.env.irqRets = [] → irqCalls (lens.map Instr.checkout) s = .ok t →
    ∀ (m n : Nat) (hm hn lm ln : U32), m < n → lens[m]? = some lm → lens[n]? = some ln →
      t.env.irqRets[m]? = some (.word hm) → t.env.irqRets[n]? = some (.word hn) →
      hm.toNat + lm.toNat ≤ hn.toNat ∨ hn.toNat + ln.toNat ≤ hm.toNat

/-- R434: `checkin` refuses a handle outside both buffers, and one whose buffer has no outstanding checkout; else it takes one
checkout off that buffer. It touches no insertion point, count or pending flag. The state is quiet. -/
def Obligations.CheckinReleases : Prop :=
  ∀ (s : State) (h : U32), quiet s = true →
    (2 * s.cfg.logBufCap ≤ h.toNat → exec (.checkin h) s = .next (putRet (.code .rejected) s)) ∧
    (h.toNat < 2 * s.cfg.logBufCap → (s.sh.buf (h.toNat / s.cfg.logBufCap)).checkouts = 0 →
      exec (.checkin h) s = .next (putRet (.code .rejected) s)) ∧
    (h.toNat < 2 * s.cfg.logBufCap → (s.sh.buf (h.toNat / s.cfg.logBufCap)).checkouts ≠ 0 →
      exec (.checkin h) s = .next (putRet (.code .ok)
        { s with sh := s.sh.setBuf (h.toNat / s.cfg.logBufCap) fun b => { b with checkouts := b.checkouts - 1 } }))

/-- R436: `log` appends one record. In a quiet state with room in the active buffer, the record's bytes stand in LOGBUF at the
grant, the offset and the count have moved past them, and the checkout count is as before; no other byte, register or space
changes. In every state it is built on `checkout`: where main's `checkout` of the length is refused, `log` is refused alike;
where it grants a handle in a quiet state, from a null or full insertion point too, `log` copies the record there and checks in.
The data is a HOST address and a length (log 5). -/
def Obligations.LogAppends : Prop :=
  ∀ (s : State) (data : HostAddr) (len : U32),
    (len = 0 ∨ s.cfg.logBufCap < len.toNat → exec (.log data len) s = .next (putRet (.code .rejected) s)) ∧
    (s.cfg.wf = true → len ≠ 0 → quiet s = true → ipWellFormed s.sh.ip = true → ipValid s.sh.ip = true →
      ipOff s.sh.ip + len.toNat ≤ s.cfg.logBufCap → hostReadable s data len.toNat = true →
      (s.sh.buf (ipIdx s.sh.ip)).checkouts ≠ 0xFFFFFFFF →
      exec (.log data len) s = .next (putRet (.code .ok)
        (State.poke { s with sh := { s.sh.setBuf (ipIdx s.sh.ip) (fun b => { b with count := b.count + len }) with
            ip := mkIp true (ipIdx s.sh.ip) (ipOff s.sh.ip + len.toNat) } }
          .logbuf (ipIdx s.sh.ip * s.cfg.logBufCap + ipOff s.sh.ip) (s.peekList .host data.toNat len.toNat)))) ∧
    (∀ (s1 : State) (e : Err), s.env.ctx = .main → exec (.checkout len) s = .next s1 → s1.env.ret = .code e →
      exec (.log data len) s = .next s1) ∧
    (∀ (s1 : State) (h : U32), s.cfg.wf = true → s.env.ctx = .main → quiet s = true → hostReadable s data len.toNat = true →
      exec (.checkout len) s = .next s1 → s1.env.ret = .word h → (s1.sh.buf (h.toNat / s.cfg.logBufCap)).checkouts ≠ 0 →
      exec (.log data len) s = .next (putRet (.code .ok)
        (State.poke { s1 with sh := s1.sh.setBuf (h.toNat / s.cfg.logBufCap) fun b => { b with checkouts := b.checkouts - 1 } }
          .logbuf h.toNat (s.peekList .host data.toNat len.toNat))))

/-- R437: `log_gather` appends one record made of its segments, one after another. The total of the lengths is exact; a count of
0, a total of 0 or one above the capacity is refused. It is built on `checkout` of the total as `log` is. The array's layout is
the model's (log 15). -/
def Obligations.LogGatherAppends : Prop :=
  ∀ (s : State) (segments : HostAddr) (count total : U32) (segs : List (HostAddr × U32)),
    (exec (.logGather segments 0) s = .next (putRet (.code .rejected) s)) ∧
    (count ≠ 0 → hostReadable s segments (12 * count.toNat) = true →
      segs.length = count.toNat →
      (∀ k, k < count.toNat → segs[k]? = some
        (field32 s .host (segments.toNat + 12 * k + 4) ++ field32 s .host (segments.toNat + 12 * k),
          field32 s .host (segments.toNat + 12 * k + 8))) →
      ((segs.map fun x => x.2.toNat).sum = 0 ∨ s.cfg.logBufCap < (segs.map fun x => x.2.toNat).sum →
        exec (.logGather segments count) s = .next (putRet (.code .rejected) s)) ∧
      ((segs.map fun x => x.2.toNat).sum = total.toNat → total ≠ 0 →
        (∀ x ∈ segs, hostReadable s x.1 x.2.toNat = true) →
        s.cfg.wf = true → quiet s = true → ipWellFormed s.sh.ip = true → ipValid s.sh.ip = true →
        ipOff s.sh.ip + total.toNat ≤ s.cfg.logBufCap → (s.sh.buf (ipIdx s.sh.ip)).checkouts ≠ 0xFFFFFFFF →
        exec (.logGather segments count) s = .next (putRet (.code .ok)
          (State.poke { s with sh := { s.sh.setBuf (ipIdx s.sh.ip) (fun b => { b with count := b.count + total }) with
              ip := mkIp true (ipIdx s.sh.ip) (ipOff s.sh.ip + total.toNat) } }
            .logbuf (ipIdx s.sh.ip * s.cfg.logBufCap + ipOff s.sh.ip)
            (segs.flatMap fun x => s.peekList .host x.1.toNat x.2.toNat)))) ∧
      (∀ (s1 : State) (e : Err), (segs.map fun x => x.2.toNat).sum = total.toNat → s.env.ctx = .main →
        exec (.checkout total) s = .next s1 → s1.env.ret = .code e → exec (.logGather segments count) s = .next s1) ∧
      (∀ (s1 : State) (h : U32), (segs.map fun x => x.2.toNat).sum = total.toNat →
        (∀ x ∈ segs, hostReadable s x.1 x.2.toNat = true) → s.cfg.wf = true → s.env.ctx = .main → quiet s = true →
        exec (.checkout total) s = .next s1 → s1.env.ret = .word h →
        (s1.sh.buf (h.toNat / s.cfg.logBufCap)).checkouts ≠ 0 →
        exec (.logGather segments count) s = .next (putRet (.code .ok)
          (State.poke { s1 with sh := s1.sh.setBuf (h.toNat / s.cfg.logBufCap) fun b => { b with checkouts := b.checkouts - 1 } }
            .logbuf h.toNat (segs.flatMap fun x => s.peekList .host x.1.toNat x.2.toNat)))))

/-- What R431's own steps let happen between main's step 3 and its step 4, from reset. R562, the stranded buffer: an irq `checkout`
that does not fit beside main's grant leaves main's buffer with bytes, not pending, and the insertion point elsewhere. And two irq
checkouts, the second switching back while main's count is still 0, are granted main's own bytes (log 33). -/
def Obligations.StrandedBufferHappens : Prop :=
  (∃ (irqs : List (List Instr)) (t : State),
    exec (.checkout 100) { State.reset with env := { State.reset.env with irqs := irqs } } = .next t ∧
    t.env.ret = .word 0 ∧ t.sh.buf0.count = 100 ∧ t.sh.buf0.pending = false ∧ ipValid t.sh.ip = true ∧ ipIdx t.sh.ip = 1) ∧
  (∃ (irqs : List (List Instr)) (t : State),
    exec (.checkout 100) { State.reset with env := { State.reset.env with irqs := irqs } } = .next t ∧
    irqs.flatten = [.checkout 2000, .checkout 100] ∧ t.env.ret = .word 0 ∧ t.env.irqRets = [.word 2048, .word 0])

/-- R157, R468, R507, R565: calls that are turned away. An unassigned host code (one R157's table does not list) returns `E_REJECTED`
and changes no state, from irq too, which is the model's choice (log 35). Context misuse is refused by name: an irq call of anything but a producer's operation, and a service a
client's callback calls (log 21). The call is an entry of the agenda (log 1), its returned value an observer's record (log 13). -/
def Obligations.CallsTurnedAway : Prop :=
  (∀ (s : State) (code : Byte) (operands : List Byte) (rest : List Event),
    code.toNat ∉ assignedHostCodes → s.env.agenda = .call .main (code :: operands) :: rest →
    step s = .next { s with env := { s.env with agenda := rest, ctx := .main, ret := .code .rejected } }) ∧
  (∀ (s : State) (code : Byte) (operands : List Byte) (rest : List Event),
    code.toNat ∉ assignedHostCodes → s.env.agenda = .call .irq (code :: operands) :: rest →
    step s = .next { s with env :=
      { s.env with agenda := rest, ctx := .irq, irqRets := s.env.irqRets ++ [.code .rejected] } }) ∧
  (∀ (s : State) (record more : List Byte) (i : Instr) (rest : List Event),
    decode .hostop record = .ok (i, more) → isProducer i = false → s.env.agenda = .call .irq record :: rest →
    step s = .refused .contextMisuse) ∧
  (∀ (s : State) (i : Instr), isProducer i = false → irqCall i s = .error (.refused .contextMisuse)) ∧
  (∀ (s : State) (now : U32) (cardDetect : Bool),
    callFromCallback (.sdService now cardDetect) s = .refused .contextMisuse ∧
    callFromCallback (.logService now) s = .refused .contextMisuse)

/-! ## Host operations of the block device and the state queries -/

/-- R160, R313, R314, R316, R317, R403, R404, R440, R441, R500: the queries return the codes the tables give and change nothing
else. `flight_blocks` is 0 while no flight is selected (R49, R59). A `missed_checkouts` is one atomic load, so its state is quiet here. -/
def Obligations.StateQueries : Prop :=
  (∀ (s : State) (st : SdState) (code proj : Byte),
    (st, code, proj) ∈ ([(.absent, 0, 0), (.init, 1, 1), (.ready, 2, 2), (.read, 3, 2), (.write, 4, 2), (.failRetries, 5, 4),
      (.unusable, 6, 3), (.failed, 7, 4)] : List (SdState × Byte × Byte)) → s.sd.state = st →
    exec .sdState s = .next (putRet (.byte code) s) ∧ exec .status s = .next (putRet (.byte proj) s)) ∧
  (∀ (s : State) (st : LogState) (code : Byte),
    (st, code) ∈ ([(.acqPt, 0), (.ptPending, 1), (.ptParsed, 2), (.acqSb, 3), (.sbPending, 4), (.sbParsed, 5), (.active, 6),
      (.paused, 7), (.tooManyRetries, 8), (.noValidTable, 9), (.noValidPartition, 10), (.outOfSpace, 11),
      (.failed, 12)] : List (LogState × Byte)) → s.lg.state = st →
    exec .logState s = .next (putRet (.byte code) s)) ∧
  (∀ (s : State) (e : Err) (code : Byte),
    (e, code) ∈ ([(.ok, 0), (.cmdTimeout, 1), (.busyTimeout, 2), (.writeBusyTimeout, 3), (.writeRespTimeout, 4),
      (.readTokenTimeout, 5), (.r1Error, 6), (.dataCrc, 7), (.writeError, 8), (.dataErrGeneric, 9), (.dataErrEcc, 10),
      (.dataErrRange, 11), (.readCrc, 12), (.statusNonzero, 13), (.dataRespOther, 14), (.rejected, 15), (.cardRemoved, 16),
      (.checkPattern, 17), (.invalidTable, 20), (.noPartition, 21), (.badSbMagic, 22), (.badSbVersion, 23), (.noFreeSlot, 24),
      (.outOfSpace, 30), (.voltage, 40), (.csdVersion, 41), (.illegalCmd, 42), (.initLoopTimeout, 43), (.retries, 44),
      (.deviceFailed, 45)] : List (Err × Byte)) →
    (s.sd.lastErr = e → exec .sdLastError s = .next (putRet (.byte code) s)) ∧
    (s.lg.failReason = e → exec .logFailReason s = .next (putRet (.byte code) s))) ∧
  (∀ s : State, exec .capacityBlocks s = .next (putRet (.word s.sd.capacity) s) ∧
    (s.lg.flightValid = true → exec .flightBlocks s = .next (putRet (.word s.lg.flNum) s)) ∧
    (s.lg.flightValid = false → exec .flightBlocks s = .next (putRet (.word 0) s)) ∧
    (quiet s = true → exec .missedCheckouts s = .next (putRet (.word s.sh.missed) s))) ∧
  [0x04, 0x05, 0x06, 0x07, 0x18, 0x19, 0x1A, 0x1B].map (fun c => (decode .hostop [c]).toOption) =
    [Instr.status, .capacityBlocks, .sdState, .sdLastError, .flightBlocks, .missedCheckouts, .logState, .logFailReason].map
      fun i => some (i, [])

/-- R115, R311, R312, R507: `read` and `write` are accepted exactly in `SD_READY` with a count above 0 and a range, its sum exact,
within the capacity; they then write the operation's registers and the control tuple, do no I/O, and return 0. Otherwise they
return `E_REJECTED` and change nothing. -/
def Obligations.OperationAdmission : Prop :=
  ∀ (s : State) (addr count : U32) (buf : HostAddr) (cb ctx : U32),
    (s.sd.state = .ready → count ≠ 0 → addr.toNat + count.toNat ≤ s.sd.capacity.toNat →
      exec (.read addr count buf cb ctx) s =
        .next (putRet (.code .ok) (opAccepted .read addr count ⟨.host, buf⟩ (.client cb) ctx s)) ∧
      exec (.write addr count buf cb ctx) s =
        .next (putRet (.code .ok) (opAccepted .write addr count ⟨.host, buf⟩ (.client cb) ctx s))) ∧
    (s.sd.state ≠ .ready ∨ count = 0 ∨ s.sd.capacity.toNat < addr.toNat + count.toNat →
      exec (.read addr count buf cb ctx) s = .next (putRet (.code .rejected) s) ∧
      exec (.write addr count buf cb ctx) s = .next (putRet (.code .rejected) s)) ∧
    (encode (.read addr count buf cb ctx)).head? = some 0x02 ∧ (encode (.write addr count buf cb ctx)).head? = some 0x03

/-- R247, R278, R279, R304: a poll with nothing to do latches its inputs and changes nothing else: a transaction is in progress,
or the engine is ready or in a terminal state with the card present, or there is no card and none was there. -/
def Obligations.SdServiceIdle : Prop :=
  ∀ (s : State) (now : U32) (cardDetect : Bool), s.env.cbQueue = none →
    (s.sd.xferPending = true ∧ s.env.done = false) ∨
    (s.sd.xferPending = false ∧ present cardDetect s = true ∧
      s.sd.state ∈ [SdState.ready, .failRetries, .unusable, .failed]) ∨
    (s.sd.xferPending = false ∧ present cardDetect s = false ∧ s.sd.state = .absent) →
    exec (.sdService now cardDetect) s = .next (putRet .none (polled now cardDetect s))

/-- R145, R230, R231: a card seen in `SD_ABSENT` starts initialisation in the same poll: the registers of R230 are reset and the
power-up clocks are submitted; where the transport refuses them the step waits. R305, R551: a removal seen at a poll, with no
transaction pending, in any state but `SD_ABSENT`: the capacity, the session, the retained bytes and the sub-states are cleared,
the state is absent and the cause kept; a client's outstanding operation fails and its callback is made. The log engine's state
stays. -/
def Obligations.InsertionAndRemoval : Prop :=
  (∀ (s : State) (now : U32) (cardDetect : Bool), s.env.cbQueue = none → s.sd.xferPending = false →
    present cardDetect s = true → s.sd.state = .absent →
    let t := { polled now cardDetect s with
      sd := { s.sd with
        state := .init, initStep := .clocks, retryCnt := 0, cardV2 := false, blockAddr := false, capacity := 0
        lastErr := .ok, cmdPh := .idle, opPhase := .none, rxRetain := [], rxSkip := false } }
    (s.env.submitOk = false → exec (.sdService now cardDetect) s = .next (putRet .none t)) ∧
    (s.env.submitOk = true → exec (.sdService now cardDetect) s = .next (putRet .none
      { transacting (List.replicate s.cfg.initClockBytes 0xFF) .echo t with
        sd := { (transacting (List.replicate s.cfg.initClockBytes 0xFF) .echo t).sd with initStep := .cmd0 } }))) ∧
  (∀ (s : State) (now : U32) (cardDetect : Bool), s.env.cbQueue = none → s.sd.xferPending = false →
    present cardDetect s = false → s.sd.state ≠ .absent →
    (s.op.valid = false → exec (.sdService now cardDetect) s = .next (putRet .none
      { polled now cardDetect s with
        sd := { s.sd with
          capacity := 0, session := false, rxRetain := [], rxSkip := false, cmdPh := .idle, opPhase := .none
          lastErr := .cardRemoved, state := .absent } })) ∧
    (s.op.valid = true → quietClient s = true → exec (.sdService now cardDetect) s = .next (putRet .none
      { polled now cardDetect s with
        sd := { s.sd with
          capacity := 0, session := false, rxRetain := [], rxSkip := false, cmdPh := .idle, opPhase := .none
          lastErr := .cardRemoved, state := .absent }
        op := { s.op with valid := false, err := .cardRemoved }
        env := { (polled now cardDetect s).env with
          callbacks := s.env.callbacks ++ [⟨s.op.cb, s.op.ctx, 1, s.op.done⟩] } })))

/-- R503: the block's trap entry. What `raise` does next, by the phase that raises it, with the first error kept; and `finish`,
after which a client's callback, which makes no call here, has been made with the operation's result and progress. -/
def Obligations.RaiseAndFinish : Prop :=
  ∀ (s : State) (e : Err),
    (s.sd.state = .init → raise e s = stepFailed .cmd9 e
      { s with sd := { s.sd with session := false, opPhase := .none, rxRetain := [], rxSkip := false } }) ∧
    (s.sd.state ≠ .init →
      (s.sd.opPhase ∈ [OpPhase.rdCmd, .wrCmd, .wrFinalBusy, .wrStopPostBusy, .wrStatus] →
        raise e s = finish false .ready (withError e s)) ∧
      (s.sd.opPhase ∈ [OpPhase.rdToken, .rdData, .wrBusy, .wrDresp, .wrStopBusy] → s.op.count = 1 →
        raise e s = finish false .ready (withError e s)) ∧
      (s.sd.opPhase = .rdToken ∨ (s.sd.opPhase = .rdData ∧ s.op.idx ≠ s.op.count - 1) → 1 < s.op.count →
        raise e s = { withError e s with sd := { s.sd with opPhase := .rdAbort, cmdPh := .idle } }) ∧
      (s.sd.opPhase = .rdData → 1 < s.op.count → s.op.idx = s.op.count - 1 →
        raise e s = { withError e s with sd := { s.sd with opPhase := .rdStop, tAnchor := s.env.now } }) ∧
      (s.sd.opPhase ∈ [OpPhase.wrBusy, .wrDresp, .wrStopBusy] → s.op.count ≠ 1 →
        raise e s = { withError e s with sd := { s.sd with opPhase := .wrAbort, cmdPh := .idle } })) ∧
    (∀ (success : Bool) (dest : SdState),
      (finish success dest s).env.cbQueue = some ⟨s.op.cb, s.op.ctx, success, s.op.done⟩ ∧
      (quietClient s = true → runCallback (finish success dest s) = .ok (finished success dest s)))

/-- R276, R278, R286, R503: a single-block read ends. At the poll that sees its receive complete, the payload stands in the caller's
buffer; with a right CRC, or none checked, the operation succeeds with one block done, and with a wrong one it fails with
`E_READ_CRC` and none; either way the engine is ready and the client's callback is made. No other byte changes. -/
def Obligations.SingleBlockReadEnds : Prop :=
  ∀ (s : State) (now : U32) (cardDetect : Bool), s.env.cbQueue = none → present cardDetect s = true →
    s.mem.host.wf = true →
    s.sd.xferPending = true → s.env.done = true → s.sd.xferRole = .payload → s.env.inBytes.length = 514 →
    atPhase .read .rdData s = true → s.sd.rxRetain = [] →
    s.op.len = 512 → s.op.byte = 0 → s.op.crc = 0 → s.op.idx = 0 → s.op.count = 1 → s.op.err = .ok → s.op.done = 0 →
    s.op.buf.space = .host → hostReadable s s.op.buf.addr 512 = true → quietClient s = true →
    ∃ t, exec (.sdService now cardDetect) s = .next t ∧
      t.sd.state = .ready ∧ t.sd.session = false ∧ t.sd.xferPending = false ∧ t.op.valid = false ∧
      (∀ k, k < 512 → t.peek .host (s.op.buf.addr.toNat + k) = byteAt s.env.inBytes k) ∧
      (∀ sp a, sp ≠ .host ∨ a < s.op.buf.addr.toNat ∨ s.op.buf.addr.toNat + 512 ≤ a → t.peek sp a = s.peek sp a) ∧
      t.lg = s.lg ∧ t.sh = s.sh ∧
      (if s.cfg.useCrc = true ∧ crc16Bytes s.env.inBytes ≠ 0 then
        t.sd.lastErr = .readCrc ∧ t.env.callbacks = s.env.callbacks ++ [⟨s.op.cb, s.op.ctx, 1, 0⟩]
      else t.sd.lastErr = s.sd.lastErr ∧ t.env.callbacks = s.env.callbacks ++ [⟨s.op.cb, s.op.ctx, 0, 1⟩])

/-- R276, R278, R286, R287, R503: the round that sees the receive of a block complete, whatever part of the block was taken before.
The rest of the payload is stored, the CRC runs over every byte. Right, or not checked, the block counts as done and the read
goes on to its next token, to the stop after the final block of many, or ends; wrong, the error is raised: a multi-block read
aborts, or waits for its stop on the final block, and a client's single-block read finishes failed. -/
def Obligations.BlockReceived : Prop :=
  ∀ s : State, s.env.cbQueue = none → s.env.cardDetect = true → s.sd.xferPending = true → s.env.done = true →
    (s.sd.xferRole = .payload ∨ s.sd.xferRole = .payloadStop) → atPhase .read .rdData s = true → s.sd.rxRetain = [] →
    s.op.len = 512 → s.op.byte.toNat + s.env.inBytes.length = 514 →
    let start := s.op.buf.addr.toNat + (s.op.idx * 512).toNat + s.op.byte.toNat
    inSpace s.cfg s.op.buf.space start (512 - s.op.byte.toNat) = true →
    let crc := s.env.inBytes.foldl (fun c b => crc16UpdateByte c b) s.op.crc
    let t := State.poke
      { s with
        op := { s.op with byte := 514, crc := crc }
        sd := { s.sd with xferPending := false, tAnchor := s.env.now } }
      s.op.buf.space start (s.env.inBytes.take (512 - s.op.byte.toNat))
    let counted : State := { t with op := { t.op with done := s.op.idx + 1 } }
    (s.cfg.useCrc = false ∨ crc = 0 →
      (s.op.idx + 1 < s.op.count → pollRound s = .ok (.again,
        { t with op := { t.op with done := s.op.idx + 1, idx := s.op.idx + 1 }, sd := { t.sd with opPhase := .rdToken } })) ∧
      (¬s.op.idx + 1 < s.op.count → s.op.count ≠ 1 →
        pollRound s = .ok (.again, { counted with sd := { t.sd with opPhase := .rdStop } })) ∧
      (¬s.op.idx + 1 < s.op.count → s.op.count = 1 → quietClient s = true →
        pollRound s = .ok (.again, finished true .ready counted))) ∧
    (s.cfg.useCrc = true → crc ≠ 0 →
      (1 < s.op.count → s.op.idx ≠ s.op.count - 1 → pollRound s = .ok (.again,
        { withError .readCrc t with sd := { t.sd with opPhase := .rdAbort, cmdPh := .idle } })) ∧
      (1 < s.op.count → s.op.idx = s.op.count - 1 → pollRound s = .ok (.again,
        { withError .readCrc t with sd := { t.sd with opPhase := .rdStop } })) ∧
      (s.op.count = 1 → quietClient s = true → pollRound s = .ok (.again, finished false .ready (withError .readCrc t))))

/-- R243, R244, R249, R250: the round that sees the receive of the CSD complete. Its 16 bytes stand in `CSD_BUF`; with a right CRC,
or none checked, its capacity, capped on a byte-addressed card, is the card's and the initialisation goes on to CMD16, or an
unknown structure makes the card unusable; with a wrong one the step fails and restarts at CMD9. The session closes. -/
def Obligations.CsdReceived : Prop :=
  ∀ s : State, s.env.cbQueue = none → s.env.cardDetect = true → s.sd.xferPending = true → s.env.done = true →
    s.sd.xferRole = .payload → atInit .csd s = true → s.sd.opPhase = .rdData → s.sd.rxRetain = [] → s.op.len = 16 →
    s.op.byte.toNat ≤ 16 → s.op.byte.toNat + s.env.inBytes.length = 18 →
    let csd := s.sd.csdBuf.toList.take s.op.byte.toNat ++ s.env.inBytes.take (16 - s.op.byte.toNat)
    let crc := s.env.inBytes.foldl (fun c b => crc16UpdateByte c b) s.op.crc
    ∃ buf : Vector Byte 16, buf.toList = csd ∧
      let t : State := { s with
        op := { s.op with byte := 18, crc := crc }
        sd := { s.sd with
          csdBuf := buf, xferPending := false, tAnchor := s.env.now, session := false, opPhase := .none } }
      (s.cfg.useCrc = false ∨ crc = 0 →
        (∀ capacity, csdCapacityOf csd = some capacity → pollRound s = .ok (.again, { t with sd := { t.sd with
          retryCnt := 0, initStep := .cmd16
          capacity := if s.sd.blockAddr = false ∧ 2 ^ 23 < capacity.toNat then BitVec.ofNat 32 (2 ^ 23) else capacity } })) ∧
        (csdCapacityOf csd = none → pollRound s = .ok (.again, { t with sd := { t.sd with
          lastErr := .csdVersion, state := .unusable } }))) ∧
      (s.cfg.useCrc = true → crc ≠ 0 → pollRound s = .ok (.again,
        stepFailed .cmd9 .readCrc { t with sd := { t.sd with rxSkip := false } }))

/-- R272, R284, R288, R291, R296, R297, R299: what ends a search that the retained bytes decide: the bytes before the one sought are
dropped, one more after CMD12, the rest stay. The start token begins a block's data. The ready byte sends a write on to its next packet, its stop token or its status,
or ends a client's single-block write; the response to the overlapped CMD12, its value not examined, ends a client's read. -/
def Obligations.SearchesEnd : Prop :=
  ∀ (s : State) (x : Sought) (skipped before rest : List Byte) (b : Byte), idleEngine s = true → seeks x s = true →
    s.sd.rxRetain = skipped ++ before ++ b :: rest → skipped.length = s.sd.rxSkip.toNat →
    (∀ y ∈ before, x.found y = false) → x.found b = true →
    let t : State := { s with sd := { s.sd with rxSkip := false, rxRetain := rest } }
    (x = .readToken → b = 0xFE → pollRound s = .ok (.again,
      { t with op := { t.op with byte := 0, crc := 0 }, sd := { t.sd with opPhase := .rdData } })) ∧
    (atPhase .write .wrBusy s = true → pollRound s = .ok (.again, { t with sd := { t.sd with opPhase := .wrSend } })) ∧
    (atPhase .write .wrFinalBusy s = true → quietClient s = true → pollRound s = .ok (.again, finished true .ready t)) ∧
    (atPhase .write .wrStopBusy s = true → pollRound s = .ok (.again, { t with sd := { t.sd with opPhase := .wrStopToken } })) ∧
    (atPhase .write .wrStopPostBusy s = true → pollRound s = .ok (.again,
      { t with sd := { t.sd with opPhase := .wrStatus, cmdPh := .idle } })) ∧
    (atPhase .read .rdStop s = true → quietClient s = true →
      pollRound s = .ok (.again, finished (s.op.err == .ok) .ready t))

/-- R272, R284, R288, R291, R295-R297, R299: a search that no byte decides. Within its window it clocks another chunk, or waits
where the transport refuses it; past the window the phase's own error is raised, or, in the stop after a read, a client's read
finishes failed with its first error. -/
def Obligations.SearchesTimeOut : Prop :=
  ∀ (s : State) (x : Sought), idleEngine s = true → seeks x s = true → (∀ y ∈ s.sd.rxRetain.drop s.sd.rxSkip.toNat, x.found y = false) →
    let t : State := { s with sd := { s.sd with rxSkip := s.sd.rxSkip && s.sd.rxRetain.isEmpty, rxRetain := [] } }
    (s.env.now - s.sd.tAnchor ≤ x.window s.cfg →
      (s.env.submitOk = false → pollRound s = .ok (.yield, t)) ∧
      (s.env.submitOk = true → pollRound s = .ok (.yield, transacting (List.replicate s.cfg.respChunk 0xFF) .search t))) ∧
    (x.window s.cfg < s.env.now - s.sd.tAnchor →
      (x = .readToken → pollBody s = .ok (.again, raise .readTokenTimeout t)) ∧
      (x = .readyByte → pollBody s = .ok (.again, raise .writeBusyTimeout t)) ∧
      (x = .dataResponse → pollBody s = .ok (.again, raise .writeRespTimeout t)) ∧
      (x = .stopResponse → quietClient s = true →
        pollRound s = .ok (.again, finished false .ready (withError .cmdTimeout t))))

/-! ## Words on the wire: one handler run of the engine where the control tuple selects the word (log 7, 8) -/

/-- R131, R234, R280, R285, R289, R290, R300, R301: where the control tuple executes a command and none is under way, the run
starts it with the index, argument, response type and busy-poll the tables give, in the sub-state the session calls for. -/
def Obligations.CommandStarts : Prop :=
  ∀ (s : State) (i : Instr) (index : BitVec 6) (argument : U32) (crc : BitVec 7),
    executing i .idle s = true → commandOf i = some (index, argument, crc) →
    exec i s = .next { s with sd := { s.sd with
      cmdIdx := index, cmdArg := argument, cmdRtype := commandResponse i, cmdPreBusy := !skipsBusyPoll i, respGot := 0
      cmdPh := if s.sd.session = false then .opening else if skipsBusyPoll i then .marshal else .busy
      tAnchor := if s.sd.session = true ∧ skipsBusyPoll i = false then s.env.now else s.sd.tAnchor } }

/-- R281, R282: the command goes out. The session opens, or the run waits; the busy-poll clocks a chunk, finds the card ready, or
times out; the frame is marshalled, bit for bit the command's encoding; it is submitted, or the run waits with the retained
bytes dropped (log 22); after CMD12 one byte is to be skipped. -/
def Obligations.CommandIsSent : Prop :=
  ∀ (s : State) (i : Instr) (index : BitVec 6) (argument : U32) (crc : BitVec 7),
    commandOf i = some (index, argument, crc) →
    (executing i .opening s = true →
      (s.env.openOk = false → exec i s = .next s) ∧
      (s.env.openOk = true → exec i s = .next { s with sd := { s.sd with
        session := true, rxRetain := [], rxSkip := false, cmdPh := if s.sd.cmdPreBusy then .busy else .marshal
        tAnchor := if s.sd.cmdPreBusy then s.env.now else s.sd.tAnchor } })) ∧
    (executing i .busy s = true → s.sd.rxSkip = false →
      (∀ rest, s.sd.rxRetain = 0xFF :: rest →
        exec i s = .next { s with sd := { s.sd with rxRetain := rest, cmdPh := .marshal } }) ∧
      (s.sd.rxRetain = [] → s.cfg.busyTimeoutMs < s.env.now - s.sd.tAnchor →
        exec i s = .next { s with sd := { s.sd with cmdOut := .busyTimeout, cmdPh := .done } }) ∧
      (s.sd.rxRetain = [] → s.env.now - s.sd.tAnchor ≤ s.cfg.busyTimeoutMs → s.env.submitOk = true →
        exec i s = .next (transacting (List.replicate s.cfg.respChunk 0xFF) .search s))) ∧
    (executing i .marshal s = true → s.sd.cmdIdx = index → s.sd.cmdArg = argument →
      ∃ t, exec i s = .next t ∧ t.sd.cmdBuf.toList = encode i ∧
        t = { s with sd := { s.sd with cmdBuf := t.sd.cmdBuf, cmdPh := .send } }) ∧
    (executing i .send s = true → s.sd.cmdBuf.toList = encode i → s.sd.cmdIdx = index →
      (s.env.submitOk = false → exec i s = .next { s with sd := { s.sd with rxRetain := [] } }) ∧
      (s.env.submitOk = true → exec i s = .next
        { s with
          sd := { s.sd with
            rxRetain := [], xferPending := true, xferOut := encode i, xferInLen := 6, xferRole := .echo, cmdPh := .resp
            tAnchor := s.env.now, rxSkip := s.sd.rxSkip || index == 12 }
          env := { s.env with done := false } }))

/-- R276, R287: on the final block of a multi-block read the retained bytes, at most seven, are taken first; then the CMD12 frame
goes out in the byte clocks of the receive's last six bytes, and the byte after them is to be skipped. A refused submission
waits, the retained bytes taken. -/
def Obligations.StopCommandOverlaps : Prop :=
  ∀ (s : State) (crc : BitVec 7), frameCrcOk (.cmd12 crc) = true → engineFree s = true → s.env.cbQueue = none →
    atPhase .read .rdData s = true → 1 < s.op.count → s.op.idx = s.op.count - 1 → s.op.len = 512 → s.op.byte = 0 →
    s.sd.rxRetain.length ≤ 7 →
    let start := s.op.buf.addr.toNat + (s.op.idx * 512).toNat
    inSpace s.cfg s.op.buf.space start s.sd.rxRetain.length = true →
    let out := List.replicate (508 - s.sd.rxRetain.length) 0xFF ++ [0x4C, 0, 0, 0, 0, 0x61]
    let t := State.poke
      { s with
        op := { s.op with
          byte := BitVec.ofNat 16 s.sd.rxRetain.length
          crc := s.sd.rxRetain.foldl (fun c b => crc16UpdateByte c b) s.op.crc }
        sd := { s.sd with rxRetain := [] } }
      s.op.buf.space start s.sd.rxRetain
    (s.env.submitOk = true → exec (.cmd12 crc) s = .next
      { transacting out .payloadStop t with sd := { (transacting out .payloadStop t).sd with rxSkip := true } }) ∧
    (s.env.submitOk = false → exec (.cmd12 crc) s = .next t)

/-- R232, R233, R234-R246: the outcomes of the initialisation commands. One that times out, or whose busy-poll does, is a step
failure with its code: the session closes, the attempt is counted, and the step restarts at its first command or the ceiling
ends the initialisation. One that ends with its response meets its acceptance test, in the order the rules write it; a response
that is not there is not examined (R36, R63; log 17). -/
def Obligations.InitCommandsEvaluated : Prop :=
  (∀ (s : State) (i : Instr), executing i .done s = true → s.sd.state = .init →
    (s.sd.cmdOut = .timeout → exec i s = .next (stepFailed (firstOfStep i) .cmdTimeout (commandEnded s))) ∧
    (s.sd.cmdOut = .busyTimeout → exec i s = .next (stepFailed (firstOfStep i) .busyTimeout (commandEnded s))) ∧
    (s.sd.cmdOut = .ok → s.sd.respGot < responseLength (commandResponse i) → exec i s = .fault .meaninglessRead)) ∧
  ∀ (s : State) (crc : BitVec 7) (u : BitVec 1),
    let r := respByte s 0
    let c := commandEnded s
    let illegal : State := { c with sd := { c.sd with lastErr := .illegalCmd, state := .unusable } }
    let passed := fun next => { c with sd := { c.sd with retryCnt := 0, initStep := next } }
    (answered (.cmd0 crc) s = true → exec (.cmd0 crc) s = .next
      (if r = 0x01 then passed .cmd8 else stepFailed .cmd0 .r1Error c)) ∧
    (answered (.cmd8 crc) s = true → exec (.cmd8 crc) s = .next
      (if r &&& 0x04 ≠ 0 then { c with sd := { (passed .cmd1).sd with cardV2 := false, tLoop := s.env.now } }
       else if r &&& 0x7E ≠ 0 then stepFailed .cmd8 .r1Error c
       else if respByte s 4 ≠ 0xAA then stepFailed .cmd8 .checkPattern c
       else { c with sd := { (passed .cmd59).sd with cardV2 := true } })) ∧
    (answered (.cmd59 u crc) s = true → exec (.cmd59 u crc) s = .next
      (if r &&& 0x7E = 0 then { c with sd := { (passed .cmd55).sd with tLoop := s.env.now } }
       else if r &&& 0x04 ≠ 0 then illegal else stepFailed .cmd59 .r1Error c)) ∧
    (answered (.cmd55 crc) s = true → exec (.cmd55 crc) s = .next
      (if r &&& 0x7E = 0 then { c with sd := { c.sd with initStep := .acmd41 } }
       else if r &&& 0x04 ≠ 0 then illegal else stepFailed .cmd55 .r1Error c)) ∧
    (∀ (i : Instr) (restart : InitStep), i = .acmd41 crc ∧ restart = .cmd55 ∨ i = .cmd1 crc ∧ restart = .cmd1 →
      answered i s = true → exec i s = .next
        (if r = 0x00 then passed .cmd58
         else if r = 0x01 then
           if s.cfg.initLoopTimeoutMs.any fun w => w < s.env.now - s.sd.tLoop then
             { c with sd := { c.sd with lastErr := .initLoopTimeout, state := .failed } }
           else { c with sd := { c.sd with initStep := restart } }
         else if r &&& 0x04 ≠ 0 then illegal else stepFailed restart .r1Error c)) ∧
    (answered (.cmd58 crc) s = true → exec (.cmd58 crc) s = .next
      (if r ≠ 0x00 then if r &&& 0x04 ≠ 0 then illegal else stepFailed .cmd58 .r1Error c
       else if (respByte s 2).getLsbD 4 = false ∧ (respByte s 2).getLsbD 5 = false then
         { c with sd := { c.sd with lastErr := .voltage, state := .unusable } }
       else { c with sd := { (passed .cmd9).sd with blockAddr := s.sd.cardV2 && (respByte s 1).getLsbD 6 } })) ∧
    (answered (.cmd9 crc) s = true → exec (.cmd9 crc) s = .next
      (if r ≠ 0x00 then if r &&& 0x04 ≠ 0 then illegal else stepFailed .cmd9 .r1Error c
       else { s with
        sd := { s.sd with cmdPh := .idle, initStep := .csd, opPhase := .rdToken, tAnchor := s.env.now }
        op := { s.op with len := 16 } })) ∧
    (answered (.cmd16 crc) s = true → exec (.cmd16 crc) s = .next
      (if r ≠ 0x00 then if r &&& 0x04 ≠ 0 then illegal else stepFailed .cmd16 .r1Error c
       else { c with sd := { (passed .clocks).sd with state := .ready } }))

/-- R285, R289, R290, R300, R301: the outcomes of the commands of an operation. A read or write command that fails finishes the
operation with no CMD12; accepted, the token search or the first packet follows. CMD13 needs two zero bytes. CMD12 of an
abort finishes failed whatever its outcome. A response that is not there is not examined (R36, R63; log 17). The operation is a client's, whose callback is made. -/
def Obligations.OperationCommandsEvaluated : Prop :=
  ∀ (s : State) (i : Instr) (arg : U32) (crc : BitVec 7), executing i .done s = true →
    (i ∈ [Instr.cmd17 arg crc, .cmd18 arg crc, .cmd24 arg crc, .cmd25 arg crc] →
      (quietClient s = true → s.sd.cmdOut = .timeout → exec i s = .next (finished false .ready (withError .cmdTimeout s))) ∧
      (quietClient s = true → s.sd.cmdOut = .busyTimeout →
        exec i s = .next (finished false .ready (withError .busyTimeout s))) ∧
      (quietClient s = true → answered i s = true → respByte s 0 ≠ 0 →
        exec i s = .next (finished false .ready (withError .r1Error s))) ∧
      (s.sd.cmdOut = .ok → s.sd.respGot = 0 → exec i s = .fault .meaninglessRead) ∧
      (answered i s = true → respByte s 0 = 0 → exec i s = .next
        { s with
          op := { s.op with idx := 0 }
          sd := { s.sd with
            cmdPh := .idle
            opPhase := if s.sd.state = .read then .rdToken else .wrSend
            tAnchor := if s.sd.state = .read then s.env.now else s.sd.tAnchor } })) ∧
    (i = .cmd13 crc → quietClient s = true →
      (s.sd.cmdOut ≠ .ok → exec i s = .next (finished false .ready (withError .cmdTimeout s))) ∧
      (s.sd.cmdOut = .ok → s.sd.respGot < 2 → exec i s = .fault .meaninglessRead) ∧
      (answered i s = true → respByte s 0 = 0 → respByte s 1 = 0 → exec i s = .next (finished true .ready s)) ∧
      (answered i s = true → ¬(respByte s 0 = 0 ∧ respByte s 1 = 0) →
        exec i s = .next (finished false .ready (withError .statusNonzero s)))) ∧
    (i = .cmd12 crc → quietClient s = true → exec i s = .next (finished false .ready s))

/-- R133, R283: the card's response. Sent as the first bytes of the search that waits for it, a response of the command's type fills
`RESP` with its bytes, in order, and ends the execution; what the card sent after it stays retained. -/
def Obligations.ResponsesAreReceived : Prop :=
  ∀ (s : State) (i : Instr) (type : RType), formatOf i = .resp type →
    inCommand s = true → s.sd.cmdPh = .resp → s.sd.respGot = 0 → s.sd.cmdRtype = type →
    searching s = true → responseLength type ≤ s.sd.xferInLen → s.env.cbQueue = none →
    ∃ t, exec i s = .next t ∧
      (∀ k, k < responseLength type → respByte t k = byteAt (encode i) k) ∧
      (∀ k, responseLength type ≤ k → respByte t k = respByte s k) ∧
      t = { received (responseLength type) (encode i) s with
        sd := { (received (responseLength type) (encode i) s).sd with
          resp := t.sd.resp, respGot := responseLength type, cmdPh := .done, cmdOut := .ok } }

/-- R142, R243, R284: the token a read searches for. The start token begins the block's data, for the CSD as for a block. A
data-error token raises its class, highest first: the CSD read restarts at CMD9, a multi-block read goes to its abort, and
a client's single-block read finishes failed. -/
def Obligations.ReadTokens : Prop :=
  ∀ (s : State) (bits : BitVec 4), searching s = true → 1 ≤ s.sd.xferInLen → s.env.cbQueue = none → s.sd.cmdPh = .idle →
    let e : Err := if bits.getLsbD 3 then .dataErrRange else if bits.getLsbD 2 then .dataErrEcc else .dataErrGeneric
    let t := received 1 (encode (.dataError bits)) s
    (atPhase .read .rdToken s = true ∨ atInit .csd s = true ∧ s.sd.opPhase = .rdToken → exec .tokStart s = .next
      { received 1 (encode .tokStart) s with
        op := { s.op with byte := 0, crc := 0 }
        sd := { (received 1 (encode .tokStart) s).sd with opPhase := .rdData } }) ∧
    (atInit .csd s = true → s.sd.opPhase = .rdToken → exec (.dataError bits) s = .next
      (stepFailed .cmd9 e { t with sd := { t.sd with session := false, opPhase := .none, rxRetain := [] } })) ∧
    (atPhase .read .rdToken s = true → s.op.count ≠ 1 → exec (.dataError bits) s = .next
      { withError e t with sd := { t.sd with opPhase := .rdAbort } }) ∧
    (atPhase .read .rdToken s = true → s.op.count = 1 → quietClient s = true → exec (.dataError bits) s = .next
      (finished false .ready (withError e t)))

/-- R140, R143, R293, R294, R298: the tokens a write sends. A data packet is the gap byte, the start token of a single-block or of a
multi-block write, the 512 bytes of the current block and their CRC-16, high byte first; the stop token is followed by one
fill byte. Bytes of a log buffer beyond its count, and SB_IMG with no flight, are not read (R63; log 17). A refused submission waits with the retained bytes dropped (log 22). -/
def Obligations.WriteTokens : Prop :=
  ∀ s : State, engineFree s = true → s.env.cbQueue = none →
    let payload := (List.range 512).map fun k => s.peek s.op.buf.space (s.op.buf.addr.toNat + (s.op.idx * 512).toNat + k)
    let crc : U16 := if s.cfg.useCrc then crc16Bytes payload else 0
    let dropped : State := { s with sd := { s.sd with rxRetain := [] } }
    let sent := fun (out : List Byte) (p : OpPhase) =>
      let t := transacting out .echo dropped
      { t with sd := { t.sd with opPhase := p, tAnchor := s.env.now } }
    (atPhase .write .wrSend s = true → sourceMeaningful s = false → s.op.count = 1 → exec .tokStart s = .fault .meaninglessRead) ∧
    (atPhase .write .wrSend s = true → sourceMeaningful s = false → s.op.count ≠ 1 →
      exec .tokStartMulti s = .fault .meaninglessRead) ∧
    (atPhase .write .wrSend s = true → sourceMeaningful s = true →
      inSpace s.cfg s.op.buf.space (s.op.buf.addr.toNat + (s.op.idx * 512).toNat) 512 = true →
      (s.op.count = 1 → exec .tokStart s = .next
        (if s.env.submitOk then sent ([0xFF, 0xFE] ++ payload ++ [crc.extractLsb' 8 8, crc.extractLsb' 0 8]) .wrDresp
         else dropped)) ∧
      (s.op.count ≠ 1 → exec .tokStartMulti s = .next
        (if s.env.submitOk then sent ([0xFF, 0xFC] ++ payload ++ [crc.extractLsb' 8 8, crc.extractLsb' 0 8]) .wrDresp
         else dropped))) ∧
    (atPhase .write .wrStopToken s = true → exec .tokStop s = .next
      (if s.env.submitOk then sent [0xFD, 0xFF] .wrStopPostBusy else dropped))

/-- R141, R295: the data response. Accepted, the block counts as done and the write goes on to its next block, its final busy or
its stop; otherwise the classified error is raised: a multi-block write aborts, a client's single-block write finishes
failed. -/
def Obligations.DataResponses : Prop :=
  ∀ (s : State) (ignored status : BitVec 3), searching s = true → 1 ≤ s.sd.xferInLen → s.env.cbQueue = none →
    s.sd.cmdPh = .idle → atPhase .write .wrDresp s = true →
    let i := Instr.dataResponse ignored status
    let t := received 1 (encode i) s
    let e : Err := if status = 0b101 then .dataCrc else if status = 0b110 then .writeError else .dataRespOther
    (status = 0b010 → exec i s = .next
      { t with
        op := { s.op with
          done := s.op.idx + 1
          idx := if s.op.idx + 1 < s.op.count then s.op.idx + 1 else s.op.idx }
        sd := { t.sd with
          tAnchor := s.env.now
          opPhase := if s.op.idx + 1 < s.op.count then .wrBusy else if s.op.count = 1 then .wrFinalBusy
            else .wrStopBusy } }) ∧
    (status ≠ 0b010 → s.op.count ≠ 1 → exec i s = .next
      { withError e t with sd := { t.sd with opPhase := .wrAbort } }) ∧
    (status ≠ 0b010 → s.op.count = 1 → quietClient s = true → exec i s = .next (finished false .ready (withError e t)))

/-! ## The log engine -/

/-- R400, R401, R402: `pause` requests a pause in `L_ACTIVE`; `resume` leaves `L_PAUSED`; `set_flight_timestamp` sets a timestamp
once, while a flight is active or paused; each has no other effect, and none in any other state. A flight is
selected where one is active or paused (R59), which every step keeps (StepKeepsFlightValid). -/
def Obligations.PauseResumeTimestamp : Prop :=
  ∀ (s : State) (utc : U32), flightHeld s = true →
    (s.lg.state = .active → exec .pause s = .next (putRet .none { s with lg := { s.lg with pauseReq := true } })) ∧
    (s.lg.state ≠ .active → exec .pause s = .next (putRet .none s)) ∧
    (s.lg.state = .paused →
      exec .resume s = .next (putRet .none { s with lg := { s.lg with state := .active, pauseReq := false } })) ∧
    (s.lg.state ≠ .paused → exec .resume s = .next (putRet .none s)) ∧
    (s.lg.state = .active ∨ s.lg.state = .paused → s.lg.flTs = 0 →
      exec (.setFlightTimestamp utc) s = .next (putRet .none { s with lg := { s.lg with flTs := utc } })) ∧
    (¬(s.lg.state = .active ∨ s.lg.state = .paused) ∨ s.lg.flTs ≠ 0 →
      exec (.setFlightTimestamp utc) s = .next (putRet .none s)) ∧
    decode .hostop [0x15] = .ok (.pause, []) ∧ decode .hostop [0x16] = .ok (.resume, []) ∧
    (encode (.setFlightTimestamp utc)).head? = some 0x17

/-- R381, R387, R388, R398, R399: a poll of the log engine that only waits, one that finds the device in a terminal state, and one
that issues an acquire read: of block 0, or of the partition's first block, into SB_IMG; a read beyond the card ends the
acquisition. -/
def Obligations.LogServiceAcquires : Prop :=
  ∀ (s : State) (now : U32),
    (logWaits s = true → exec (.logService now) s = .next (putRet .none (ticked now s))) ∧
    (s.sd.state.terminal = true →
      (s.lg.state ∈ [LogState.acqPt, .acqSb] ∨ s.lg.state ∈ [LogState.active, .paused] ∧ s.lg.wif = .none) →
      exec (.logService now) s = .next (putRet .none (logEnded .failed .deviceFailed (ticked now s)))) ∧
    (∀ (block : U32) (pending : LogState), s.sd.state = .ready →
      (s.lg.state = .acqPt ∧ block = 0 ∧ pending = .ptPending ∨
        s.lg.state = .acqSb ∧ block = s.lg.partStart ∧ pending = .sbPending) →
      (block.toNat + 1 ≤ s.sd.capacity.toNat → exec (.logService now) s = .next (putRet .none
        { opAccepted .read block 1 ⟨.sbimg, 0⟩ .logRead 0 (ticked now s) with lg := { s.lg with state := pending } })) ∧
      (s.sd.capacity.toNat ≤ block.toNat → exec (.logService now) s = .next (putRet .none
        (logEnded .noValidPartition .noPartition (ticked now s)))))

/-- R381, R383, R384, R506: the partition table and the superblock are validated before use: a bad signature, a table with no entry
of the logging type, a bad magic, a wrong version and a full directory each end the acquisition with their own cause. A table
whose lowest logging entry is `n` gives the partition's start and length, and the same poll goes on to acquire the superblock: it
issues the read of the partition's first block, waits for the device, or ends beyond the card or with the device. -/
def Obligations.LogServiceParses : Prop :=
  ∀ (s : State) (now : U32),
    let sig := s.peek .sbimg 510 = 0x55 ∧ s.peek .sbimg 511 = 0xAA
    let magic := ∀ k, k < 8 → s.peek .sbimg k = byteAt Config.sbMagic k ∧ s.peek .sbimg (504 + k) = byteAt Config.sbMagic k
    (s.lg.state = .ptParsed →
      (¬sig → exec (.logService now) s = .next (putRet .none (logEnded .noValidTable .invalidTable (ticked now s)))) ∧
      (sig → (∀ n, n < 4 → ¬logEntry s n) →
        exec (.logService now) s = .next (putRet .none (logEnded .noValidPartition .noPartition (ticked now s)))) ∧
      (∀ n, sig → n < 4 → logEntry s n → (∀ m, m < n → ¬logEntry s m) →
        let start := field32 s .sbimg (446 + 16 * n + 8)
        let t : State := { ticked now s with lg := { s.lg with
          partStart := start, partLen := field32 s .sbimg (446 + 16 * n + 12), retry := 0, state := .acqSb } }
        (s.sd.state ≠ .ready → s.sd.state.terminal = false → exec (.logService now) s = .next (putRet .none t)) ∧
        (s.sd.state.terminal = true →
          exec (.logService now) s = .next (putRet .none (logEnded .failed .deviceFailed t))) ∧
        (s.sd.state = .ready → start.toNat + 1 ≤ s.sd.capacity.toNat → exec (.logService now) s = .next (putRet .none
          { opAccepted .read start 1 ⟨.sbimg, 0⟩ .logRead 0 t with lg := { t.lg with state := .sbPending } })) ∧
        (s.sd.state = .ready → s.sd.capacity.toNat ≤ start.toNat → exec (.logService now) s = .next (putRet .none
          (logEnded .noValidPartition .noPartition t))))) ∧
    (s.lg.state = .sbParsed →
      (¬magic → exec (.logService now) s =
        .next (putRet .none (logEnded .noValidPartition .badSbMagic (ticked now s)))) ∧
      (magic → s.peek .sbimg 8 ≠ s.cfg.sbVersion → exec (.logService now) s =
        .next (putRet .none (logEnded .noValidPartition .badSbVersion (ticked now s)))) ∧
      (magic → s.peek .sbimg 8 = s.cfg.sbVersion → s.env.continueFlight = false →
        (∀ j, j < 32 → field32 s .sbimg (96 + 12 * j) ≠ 0) → exec (.logService now) s =
        .next (putRet .none (logEnded .noValidPartition .noFreeSlot (ticked now s)))))

/-- R385, R386: flight selection from a valid superblock. The first free slot starts a fresh flight where the one before ended (at
block 1 for slot 0), its record stored in SB_IMG; continuing takes the slot before it, or the last, as stored. Either way the
log engine is active, its anchors set, no write in flight and nothing requested. -/
def Obligations.FlightSelection : Prop :=
  ∀ (s : State), s.mem.sbimg.wf = true → sbValid (sbImage s) = true → sbVersionOf (sbImage s) = s.cfg.sbVersion →
    let active := fun (idx first num ts : U32) => { s.lg with
      state := .active, flightIdx := idx.setWidth 5, flFirst := first, flNum := num, flTs := ts, flightValid := true
      tLastPersist := s.env.now, tLastData := s.env.now, wif := .none, pauseReq := false, oosPending := false }
    let first := fun i => field32 s .sbimg (96 + 12 * i)
    let num := fun i => field32 s .sbimg (100 + 12 * i)
    let ts := fun i => field32 s .sbimg (104 + 12 * i)
    (∀ f, f < 32 → first f = 0 → (∀ j, j < f → first j ≠ 0) → (s.env.continueFlight = true → f = 0) →
      ∃ start, parseSuperblock s =
          (State.poke { s with lg := active (BitVec.ofNat 32 f) start 0 0 } .sbimg (96 + 12 * f) (le32Bytes start ++ List.replicate 8 0)) ∧
        start.toNat = if f = 0 then 1 else min ((first (f - 1)).toNat + (num (f - 1)).toNat) 0xFFFFFFFF) ∧
    (∀ i, i < 32 → s.env.continueFlight = true → (∀ j, j ≤ i → first j ≠ 0) → (i = 31 ∨ first (i + 1) = 0) →
      parseSuperblock s = { s with lg := active (BitVec.ofNat 32 i) (first i) (num i) (ts i) })

/-- R390-R393, R410: the drain writes a buffer. At a poll in `L_ACTIVE` with no persist owed, the lowest buffer that is pending (as it
was, or marked by the watermark or by age) and checked in is selected. The marks stay, an active buffer that is pending leaves
the insertion point null, the selected buffer's tail is padded to a block boundary (a spacer header and zeros, or zeros alone in
1 to 3 bytes) and its count grown, and `ceil(count / 512)` blocks, capped at what the flight has left, are written at the flight's
end; a capped write requests the out-of-space persist. The logged bytes and every other byte and register stay. -/
def Obligations.DrainWritesBuffer : Prop :=
  ∀ (s : State) (now : U32) (b : Nat), s.cfg.wf = true → s.mem.logbuf.wf = true → drainsAt now s = true → selectedAt now b s →
    let c := (s.sh.buf b).count.toNat
    let base := b * s.cfg.logBufCap
    let need := (c + 511) / 512
    let n := min need (s.lg.partLen.toNat - (s.lg.flFirst.toNat + s.lg.flNum.toNat))
    let block := s.lg.partStart + s.lg.flFirst + s.lg.flNum
    let issued := opAccepted .write block (BitVec.ofNat 32 n) ⟨.logbuf, BitVec.ofNat 64 base⟩ .logData (BitVec.ofNat 32 b) s
    c ≠ 0 → c ≤ s.cfg.logBufCap → n ≠ 0 → block.toNat + n ≤ s.sd.capacity.toNat →
    ∃ t, exec (.logService now) s = .next t ∧
      t.cfg = s.cfg ∧ t.env = { s.env with now := now, ret := .none } ∧ t.op = issued.op ∧ t.sd = issued.sd ∧
      t.lg = { s.lg with
        wif := .data, wifBuf := if b = 0 then 0 else 1, wifNblk := BitVec.ofNat 32 n, tLastData := now
        oosPending := decide (n < need) } ∧
      t.sh = (markedAt now s).setBuf b (fun x => { x with count := BitVec.ofNat 32 (512 * need) }) ∧
      t.mem.host = s.mem.host ∧ t.mem.sbimg = s.mem.sbimg ∧
      (∀ a, a < base + c ∨ base + 512 * need ≤ a → t.peek .logbuf a = s.peek .logbuf a) ∧
      (∀ k, k < 512 * need - c → t.peek .logbuf (base + c + k) =
        if 4 ≤ 512 * need - c ∧ k < 4 then
          byteAt [s.cfg.spacerType.extractLsb' 0 2 ++ s.cfg.spacerClass, s.cfg.spacerType.extractLsb' 2 8,
            BitVec.ofNat 8 (512 * need - c - 4), BitVec.ofNat 8 ((512 * need - c - 4) / 256)] k
        else 0)

/-- R390-R393, R396: a poll of the drain that writes no buffer. With none selectable only the marks are made; a selected buffer that
is empty loses its mark; a write beyond the card is refused, with the padding done; and with no space left in the flight at all
the same poll persists the superblock, its record stored in SB_IMG, for the out-of-space state. -/
def Obligations.DrainWritesNothing : Prop :=
  ∀ (s : State) (now : U32), s.cfg.wf = true → drainsAt now s = true →
    (selectableAt now 0 s = false → selectableAt now 1 s = false →
      exec (.logService now) s = .next (putRet .none { ticked now s with sh := markedAt now s })) ∧
    (∀ b, selectedAt now b s → (s.sh.buf b).count = 0 → exec (.logService now) s = .next (putRet .none
      { ticked now s with sh := (markedAt now s).setBuf b fun x => { x with pending := false } })) ∧
    (∀ b, selectedAt now b s → (s.sh.buf b).count ≠ 0 → (s.sh.buf b).count.toNat ≤ s.cfg.logBufCap →
      let left := s.lg.partLen.toNat - (s.lg.flFirst.toNat + s.lg.flNum.toNat)
      let block := s.lg.partStart + s.lg.flFirst + s.lg.flNum
      (left ≠ 0 → s.sd.capacity.toNat < block.toNat + min (((s.sh.buf b).count.toNat + 511) / 512) left →
        exec (.logService now) s = .next (putRet .none (paddedAt now b s))) ∧
      (left = 0 → s.lg.flightValid = true → s.lg.partStart.toNat + 1 ≤ s.sd.capacity.toNat →
        exec (.logService now) s = .next (putRet .none (State.poke
          { opAccepted .write s.lg.partStart 1 ⟨.sbimg, 0⟩ .logSb 2 (paddedAt now b s) with
            lg := { s.lg with wif := .sb, sbKind := .oos, oosPending := false } }
          .sbimg (96 + 12 * s.lg.flightIdx.toNat) (le32Bytes s.lg.flFirst ++ le32Bytes s.lg.flNum ++ le32Bytes s.lg.flTs)))))

/-- R389, R396: a persist. At a poll in `L_ACTIVE` an out-of-space persist comes before a pause's, and that before the periodic
one; the flight's record is stored in SB_IMG, its 12 bytes and no other, and the block at `PART_START` is written from it. -/
def Obligations.PersistWritesSuperblock : Prop :=
  ∀ (s : State) (now : U32) (kind : SbKind) (code : U32), logFree s = true → s.lg.flightValid = true →
    s.lg.partStart.toNat + 1 ≤ s.sd.capacity.toNat →
    (kind = .oos ∧ code = 2 ∧ s.lg.oosPending = true ∨
      kind = .pause ∧ code = 1 ∧ s.lg.oosPending = false ∧ s.lg.pauseReq = true ∨
      kind = .periodic ∧ code = 0 ∧ s.lg.oosPending = false ∧ s.lg.pauseReq = false ∧
        s.cfg.sbPersistIntervalMs < now - s.lg.tLastPersist) →
    exec (.logService now) s = .next (putRet .none (State.poke
      { opAccepted .write s.lg.partStart 1 ⟨.sbimg, 0⟩ .logSb code (ticked now s) with
        lg := { s.lg with
          wif := .sb, sbKind := kind
          pauseReq := s.lg.pauseReq && kind != .pause
          oosPending := s.lg.oosPending && kind != .oos } }
      .sbimg (96 + 12 * s.lg.flightIdx.toNat) (le32Bytes s.lg.flFirst ++ le32Bytes s.lg.flNum ++ le32Bytes s.lg.flTs)))

/-- R382, R395, R397: the log engine's callbacks. An acquire read that fails is counted and read again until the ceiling; a full
data write advances the flight and clears its buffer, a short or failed one changes neither; a persist's callback ends the
pause or the flight it was for. -/
def Obligations.LogCallbacks : Prop :=
  ∀ (s : State) (ctx blocks : U32) (success : Bool),
    let t : State := { s with env := { s.env with cbQueue := none } }
    (∀ (now next back : LogState), now = .ptPending ∧ next = .ptParsed ∧ back = .acqPt ∨
        now = .sbPending ∧ next = .sbParsed ∧ back = .acqSb → s.lg.state = now →
      s.env.cbQueue = some ⟨.logRead, ctx, success, blocks⟩ →
      runCallback s = .ok { t with lg :=
        if success then { s.lg with state := next }
        else if s.cfg.retryCeiling < s.lg.retry + 1 then
          { s.lg with retry := s.lg.retry + 1, state := .tooManyRetries, failReason := .retries }
        else { s.lg with retry := s.lg.retry + 1, state := back } }) ∧
    (s.env.cbQueue = some ⟨.logData, ctx, success, blocks⟩ → s.lg.wif = .data → quiet s = true →
      runCallback s = .ok
        (if success = true ∧ blocks = s.lg.wifNblk then
          { t with
            lg := { s.lg with wif := .none, flNum := s.lg.flNum + blocks }
            sh := s.sh.setBuf ctx.toNat fun b => { b with count := 0, pending := false } }
        else { t with lg := { s.lg with wif := .none } })) ∧
    (∀ kind : SbKind, kind = .periodic ∧ ctx = 0 ∨ kind = .pause ∧ ctx = 1 ∨ kind = .oos ∧ ctx = 2 →
      s.env.cbQueue = some ⟨.logSb, ctx, success, blocks⟩ →
      runCallback s = .ok { t with lg := { s.lg with
        wif := .none
        tLastPersist := if success then s.env.now else s.lg.tLastPersist
        state := if kind = .pause then .paused else if kind = .oos then .outOfSpace else s.lg.state
        failReason := if kind = .oos then .outOfSpace else s.lg.failReason } })

/-! ## Invariants and the rules of the whole machine -/

/-- Every step keeps the memories in canonical form (the model's own invariant: log 4). -/
def Obligations.StepKeepsMemoryCanonical : Prop :=
  ∀ s t : State, memCanonical s = true → step s = .next t → memCanonical t = true

/-- R56, R155: every step keeps the insertion point in range: reserved bits 0, a buffer of the two, and a non-null word's offset
within the capacity; and it keeps the parameters, whose ranges R12 gives. -/
def Obligations.StepKeepsInsertionPoint : Prop :=
  ∀ s t : State, s.cfg.wf = true → ipInRange s = true → step s = .next t → ipInRange t = true ∧ t.cfg = s.cfg

/-- R57: every step keeps every buffer's `COUNT` within `LOG_BUF_CAP`, whatever main does and at whichever of its atomic steps irq
calls preempt it, if of those that come at one step at most one reserves bytes. Where two do between `checkout`'s steps 3 and 4,
R431's own steps can break the bound, and the model follows them (log 33). -/
def Obligations.StepKeepsBufferCounts : Prop :=
  ∀ s t : State, s.cfg.wf = true → ipInRange s = true → countsInRange s = true → oneGrantPerStep s = true →
    step s = .next t → countsInRange t = true

/-- R107, R503: every step that starts with the critical section free and no callback owed ends so. -/
def Obligations.StepKeepsBoundary : Prop :=
  ∀ s t : State, atBoundary s = true → step s = .next t → atBoundary t = true

/-- R49, R59, R385: every step keeps a flight selected wherever the log engine relies on one: active, paused, or owed a persist's
callback. -/
def Obligations.StepKeepsFlightValid : Prop :=
  ∀ s t : State, flightHeld s = true → step s = .next t → flightHeld t = true

/-- R399, R552: a terminal log state lasts until reset, with its cause. -/
def Obligations.TerminalLogStateLasts : Prop :=
  ∀ s t : State, logStopped s = true → s.env.agenda.head? ≠ some .reset → step s = .next t →
    logStopped t = true ∧ t.lg.state = s.lg.state ∧ t.lg.failReason = s.lg.failReason

/-- R247, R552: a terminal SD state is left only by card removal or by reset; in it `read` and `write` are refused. -/
def Obligations.TerminalSdStateLasts : Prop :=
  (∀ s t : State, s.sd.state.terminal = true → s.env.agenda.head? ≠ some .reset → step s = .next t →
    t.sd.state = s.sd.state ∨ t.sd.state = .absent ∧ t.env.cardDetect = false) ∧
  (∀ (s : State) (addr count : U32) (buf : HostAddr) (cb ctx : U32), s.sd.state.terminal = true →
    exec (.read addr count buf cb ctx) s = .next (putRet (.code .rejected) s) ∧
    exec (.write addr count buf cb ctx) s = .next (putRet (.code .rejected) s))

/-- R550: what reset leaves, for every value of the parameters: the fields whose reset value the rule gives. -/
def Obligations.ResetValues : Prop :=
  ∀ p : Params, let s := State.resetWith p
    (s.sd.state = .absent ∧ s.sd.initStep = .clocks ∧ s.sd.opPhase = .none ∧ s.sd.cmdPh = .idle ∧ s.sd.respGot = 0 ∧
      s.sd.retryCnt = 0 ∧ s.sd.cardV2 = false ∧ s.sd.blockAddr = false ∧ s.sd.capacity = 0 ∧ s.sd.session = false ∧
      s.sd.xferPending = false ∧ s.sd.rxRetain = [] ∧ s.sd.rxSkip = false ∧ s.sd.lastErr = .ok ∧ s.op.valid = false) ∧
    (s.lg.state = .acqPt ∧ s.lg.failReason = .ok ∧ s.lg.retry = 0 ∧ s.lg.partStart = 0 ∧ s.lg.partLen = 0 ∧
      s.lg.flightValid = false ∧ s.lg.flFirst = 0 ∧ s.lg.flNum = 0 ∧ s.lg.flTs = 0 ∧ s.lg.wif = .none ∧
      s.lg.pauseReq = false ∧ s.lg.oosPending = false) ∧
    (s.sh.missed = 0 ∧ s.sh.ip = 0x01000000 ∧ s.sh.buf0 = ⟨0, 0, false⟩ ∧ s.sh.buf1 = ⟨0, 0, false⟩ ∧
      s.env.critical = false) ∧
    ∃ q : Params, State.reset = State.resetWith q

/-- The invariants the steps keep hold at reset, and the hardware's parameters are within their ranges (R12). And a reset in any
state (R550, R553, R554) puts every register at its reset value, whether the rule's or log 3's, and keeps the caller's memory and
the parameters (log 4, 26). -/
def Obligations.InvariantsHoldAtReset : Prop :=
  (memCanonical State.reset = true ∧ State.reset.cfg.wf = true ∧ ipInRange State.reset = true ∧ ipAtCount State.reset = true ∧
    countsInRange State.reset = true ∧ oneGrantPerStep State.reset = true ∧
    atBoundary State.reset = true ∧ flightHeld State.reset = true) ∧
  ∀ (s : State) (rest : List Event), s.env.agenda = .reset :: rest →
    ∃ t, step s = .next t ∧ t.sd = Sd.reset ∧ t.op = Op.reset ∧ t.lg = Lg.reset ∧ t.sh = Shared.reset ∧
      t.mem = ⟨s.mem.host, [], []⟩ ∧ t.cfg = s.cfg ∧ t.env.critical = false ∧ t.env.done = false ∧ atBoundary t = true ∧ flightHeld t = true

end
end

