-- ==== Sys2Proof/Laws/State.lean ====
section
/-! SUPPORT. One lemma per field per update, true by rfl, so that no later proof unfolds a record update. -/

namespace Sys2Proof.Machine
set_option Elab.async false

@[simp] theorem State.onSd_cfg (s : State) (f : Sd → Sd) : (s.onSd f).cfg = s.cfg := rfl
@[simp] theorem State.onSd_sd (s : State) (f : Sd → Sd) : (s.onSd f).sd = f s.sd := rfl
@[simp] theorem State.onSd_op (s : State) (f : Sd → Sd) : (s.onSd f).op = s.op := rfl
@[simp] theorem State.onSd_lg (s : State) (f : Sd → Sd) : (s.onSd f).lg = s.lg := rfl
@[simp] theorem State.onSd_sh (s : State) (f : Sd → Sd) : (s.onSd f).sh = s.sh := rfl
@[simp] theorem State.onSd_mem (s : State) (f : Sd → Sd) : (s.onSd f).mem = s.mem := rfl
@[simp] theorem State.onSd_env (s : State) (f : Sd → Sd) : (s.onSd f).env = s.env := rfl

@[simp] theorem State.onOp_cfg (s : State) (f : Op → Op) : (s.onOp f).cfg = s.cfg := rfl
@[simp] theorem State.onOp_sd (s : State) (f : Op → Op) : (s.onOp f).sd = s.sd := rfl
@[simp] theorem State.onOp_op (s : State) (f : Op → Op) : (s.onOp f).op = f s.op := rfl
@[simp] theorem State.onOp_lg (s : State) (f : Op → Op) : (s.onOp f).lg = s.lg := rfl
@[simp] theorem State.onOp_sh (s : State) (f : Op → Op) : (s.onOp f).sh = s.sh := rfl
@[simp] theorem State.onOp_mem (s : State) (f : Op → Op) : (s.onOp f).mem = s.mem := rfl
@[simp] theorem State.onOp_env (s : State) (f : Op → Op) : (s.onOp f).env = s.env := rfl

@[simp] theorem State.onLg_cfg (s : State) (f : Lg → Lg) : (s.onLg f).cfg = s.cfg := rfl
@[simp] theorem State.onLg_sd (s : State) (f : Lg → Lg) : (s.onLg f).sd = s.sd := rfl
@[simp] theorem State.onLg_op (s : State) (f : Lg → Lg) : (s.onLg f).op = s.op := rfl
@[simp] theorem State.onLg_lg (s : State) (f : Lg → Lg) : (s.onLg f).lg = f s.lg := rfl
@[simp] theorem State.onLg_sh (s : State) (f : Lg → Lg) : (s.onLg f).sh = s.sh := rfl
@[simp] theorem State.onLg_mem (s : State) (f : Lg → Lg) : (s.onLg f).mem = s.mem := rfl
@[simp] theorem State.onLg_env (s : State) (f : Lg → Lg) : (s.onLg f).env = s.env := rfl

@[simp] theorem State.onSh_cfg (s : State) (f : Shared → Shared) : (s.onSh f).cfg = s.cfg := rfl
@[simp] theorem State.onSh_sd (s : State) (f : Shared → Shared) : (s.onSh f).sd = s.sd := rfl
@[simp] theorem State.onSh_op (s : State) (f : Shared → Shared) : (s.onSh f).op = s.op := rfl
@[simp] theorem State.onSh_lg (s : State) (f : Shared → Shared) : (s.onSh f).lg = s.lg := rfl
@[simp] theorem State.onSh_sh (s : State) (f : Shared → Shared) : (s.onSh f).sh = f s.sh := rfl
@[simp] theorem State.onSh_mem (s : State) (f : Shared → Shared) : (s.onSh f).mem = s.mem := rfl
@[simp] theorem State.onSh_env (s : State) (f : Shared → Shared) : (s.onSh f).env = s.env := rfl

@[simp] theorem State.onMem_cfg (s : State) (f : Mem → Mem) : (s.onMem f).cfg = s.cfg := rfl
@[simp] theorem State.onMem_sd (s : State) (f : Mem → Mem) : (s.onMem f).sd = s.sd := rfl
@[simp] theorem State.onMem_op (s : State) (f : Mem → Mem) : (s.onMem f).op = s.op := rfl
@[simp] theorem State.onMem_lg (s : State) (f : Mem → Mem) : (s.onMem f).lg = s.lg := rfl
@[simp] theorem State.onMem_sh (s : State) (f : Mem → Mem) : (s.onMem f).sh = s.sh := rfl
@[simp] theorem State.onMem_mem (s : State) (f : Mem → Mem) : (s.onMem f).mem = f s.mem := rfl
@[simp] theorem State.onMem_env (s : State) (f : Mem → Mem) : (s.onMem f).env = s.env := rfl

@[simp] theorem State.onEnv_cfg (s : State) (f : Env → Env) : (s.onEnv f).cfg = s.cfg := rfl
@[simp] theorem State.onEnv_sd (s : State) (f : Env → Env) : (s.onEnv f).sd = s.sd := rfl
@[simp] theorem State.onEnv_op (s : State) (f : Env → Env) : (s.onEnv f).op = s.op := rfl
@[simp] theorem State.onEnv_lg (s : State) (f : Env → Env) : (s.onEnv f).lg = s.lg := rfl
@[simp] theorem State.onEnv_sh (s : State) (f : Env → Env) : (s.onEnv f).sh = s.sh := rfl
@[simp] theorem State.onEnv_mem (s : State) (f : Env → Env) : (s.onEnv f).mem = s.mem := rfl
@[simp] theorem State.onEnv_env (s : State) (f : Env → Env) : (s.onEnv f).env = f s.env := rfl

/-! Two updates of one group are one update. -/

theorem State.onSd_onSd (s : State) (f g : Sd → Sd) : (s.onSd f).onSd g = s.onSd (fun x => g (f x)) := rfl
theorem State.onOp_onOp (s : State) (f g : Op → Op) : (s.onOp f).onOp g = s.onOp (fun x => g (f x)) := rfl
theorem State.onLg_onLg (s : State) (f g : Lg → Lg) : (s.onLg f).onLg g = s.onLg (fun x => g (f x)) := rfl
theorem State.onSh_onSh (s : State) (f g : Shared → Shared) : (s.onSh f).onSh g = s.onSh (fun x => g (f x)) := rfl
theorem State.onMem_onMem (s : State) (f g : Mem → Mem) : (s.onMem f).onMem g = s.onMem (fun x => g (f x)) := rfl
theorem State.onEnv_onEnv (s : State) (f g : Env → Env) : (s.onEnv f).onEnv g = s.onEnv (fun x => g (f x)) := rfl

/-! `putRet`, `poke`, `closeSession`, `submitted`, `storeIp` and the buffer updates. -/

@[simp] theorem putRet_cfg (r : Ret) (s : State) : (putRet r s).cfg = s.cfg := rfl
@[simp] theorem putRet_sd (r : Ret) (s : State) : (putRet r s).sd = s.sd := rfl
@[simp] theorem putRet_op (r : Ret) (s : State) : (putRet r s).op = s.op := rfl
@[simp] theorem putRet_lg (r : Ret) (s : State) : (putRet r s).lg = s.lg := rfl
@[simp] theorem putRet_sh (r : Ret) (s : State) : (putRet r s).sh = s.sh := rfl
@[simp] theorem putRet_mem (r : Ret) (s : State) : (putRet r s).mem = s.mem := rfl

@[simp] theorem State.poke_cfg (s : State) (sp : Space) (a : Nat) (bs : List Byte) : (s.poke sp a bs).cfg = s.cfg := rfl
@[simp] theorem State.poke_sd (s : State) (sp : Space) (a : Nat) (bs : List Byte) : (s.poke sp a bs).sd = s.sd := rfl
@[simp] theorem State.poke_op (s : State) (sp : Space) (a : Nat) (bs : List Byte) : (s.poke sp a bs).op = s.op := rfl
@[simp] theorem State.poke_lg (s : State) (sp : Space) (a : Nat) (bs : List Byte) : (s.poke sp a bs).lg = s.lg := rfl
@[simp] theorem State.poke_sh (s : State) (sp : Space) (a : Nat) (bs : List Byte) : (s.poke sp a bs).sh = s.sh := rfl
@[simp] theorem State.poke_mem (s : State) (sp : Space) (a : Nat) (bs : List Byte) : (s.poke sp a bs).mem = s.mem.setSpace sp ((s.mem.space sp).writeList a bs) := rfl
@[simp] theorem State.poke_env (s : State) (sp : Space) (a : Nat) (bs : List Byte) : (s.poke sp a bs).env = s.env := rfl

@[simp] theorem closeSession_cfg (s : State) : (closeSession s).cfg = s.cfg := rfl
@[simp] theorem closeSession_sd (s : State) : (closeSession s).sd = { s.sd with session := false } := rfl
@[simp] theorem closeSession_op (s : State) : (closeSession s).op = s.op := rfl
@[simp] theorem closeSession_lg (s : State) : (closeSession s).lg = s.lg := rfl
@[simp] theorem closeSession_sh (s : State) : (closeSession s).sh = s.sh := rfl
@[simp] theorem closeSession_mem (s : State) : (closeSession s).mem = s.mem := rfl
@[simp] theorem closeSession_env (s : State) : (closeSession s).env = s.env := rfl

@[simp] theorem submitted_cfg (out : List Byte) (role : XferRole) (s : State) : (submitted out role s).cfg = s.cfg := rfl
@[simp] theorem submitted_sd (out : List Byte) (role : XferRole) (s : State) : (submitted out role s).sd = { s.sd with xferPending := true, xferOut := out, xferInLen := out.length, xferRole := role } := rfl
@[simp] theorem submitted_op (out : List Byte) (role : XferRole) (s : State) : (submitted out role s).op = s.op := rfl
@[simp] theorem submitted_lg (out : List Byte) (role : XferRole) (s : State) : (submitted out role s).lg = s.lg := rfl
@[simp] theorem submitted_sh (out : List Byte) (role : XferRole) (s : State) : (submitted out role s).sh = s.sh := rfl
@[simp] theorem submitted_mem (out : List Byte) (role : XferRole) (s : State) : (submitted out role s).mem = s.mem := rfl
@[simp] theorem submitted_env (out : List Byte) (role : XferRole) (s : State) : (submitted out role s).env = { s.env with done := false } := rfl

@[simp] theorem storeIp_cfg (w : U32) (s : State) : (storeIp w s).cfg = s.cfg := rfl
@[simp] theorem storeIp_sd (w : U32) (s : State) : (storeIp w s).sd = s.sd := rfl
@[simp] theorem storeIp_op (w : U32) (s : State) : (storeIp w s).op = s.op := rfl
@[simp] theorem storeIp_lg (w : U32) (s : State) : (storeIp w s).lg = s.lg := rfl
@[simp] theorem storeIp_sh (w : U32) (s : State) : (storeIp w s).sh = { s.sh with ip := w } := rfl
@[simp] theorem storeIp_mem (w : U32) (s : State) : (storeIp w s).mem = s.mem := rfl
@[simp] theorem storeIp_env (w : U32) (s : State) : (storeIp w s).env = s.env := rfl

@[simp] theorem addMissed_cfg (s : State) : (addMissed s).cfg = s.cfg := rfl
@[simp] theorem addMissed_sd (s : State) : (addMissed s).sd = s.sd := rfl
@[simp] theorem addMissed_op (s : State) : (addMissed s).op = s.op := rfl
@[simp] theorem addMissed_lg (s : State) : (addMissed s).lg = s.lg := rfl
@[simp] theorem addMissed_sh (s : State) : (addMissed s).sh = { s.sh with missed := s.sh.missed + 1 } := rfl
@[simp] theorem addMissed_mem (s : State) : (addMissed s).mem = s.mem := rfl
@[simp] theorem addMissed_env (s : State) : (addMissed s).env = s.env := rfl

@[simp] theorem addCheckout_cfg (i : Nat) (s : State) : (addCheckout i s).cfg = s.cfg := rfl
@[simp] theorem addCheckout_sd (i : Nat) (s : State) : (addCheckout i s).sd = s.sd := rfl
@[simp] theorem addCheckout_op (i : Nat) (s : State) : (addCheckout i s).op = s.op := rfl
@[simp] theorem addCheckout_lg (i : Nat) (s : State) : (addCheckout i s).lg = s.lg := rfl
@[simp] theorem addCheckout_sh (i : Nat) (s : State) : (addCheckout i s).sh = s.sh.setBuf i fun b => { b with checkouts := b.checkouts + 1 } := rfl
@[simp] theorem addCheckout_mem (i : Nat) (s : State) : (addCheckout i s).mem = s.mem := rfl
@[simp] theorem addCheckout_env (i : Nat) (s : State) : (addCheckout i s).env = s.env := rfl

@[simp] theorem subCheckout_cfg (i : Nat) (s : State) : (subCheckout i s).cfg = s.cfg := rfl
@[simp] theorem subCheckout_sd (i : Nat) (s : State) : (subCheckout i s).sd = s.sd := rfl
@[simp] theorem subCheckout_op (i : Nat) (s : State) : (subCheckout i s).op = s.op := rfl
@[simp] theorem subCheckout_lg (i : Nat) (s : State) : (subCheckout i s).lg = s.lg := rfl
@[simp] theorem subCheckout_sh (i : Nat) (s : State) : (subCheckout i s).sh = s.sh.setBuf i fun b => { b with checkouts := b.checkouts - 1 } := rfl
@[simp] theorem subCheckout_mem (i : Nat) (s : State) : (subCheckout i s).mem = s.mem := rfl
@[simp] theorem subCheckout_env (i : Nat) (s : State) : (subCheckout i s).env = s.env := rfl

@[simp] theorem addCount_cfg (i : Nat) (n : U32) (s : State) : (addCount i n s).cfg = s.cfg := rfl
@[simp] theorem addCount_sd (i : Nat) (n : U32) (s : State) : (addCount i n s).sd = s.sd := rfl
@[simp] theorem addCount_op (i : Nat) (n : U32) (s : State) : (addCount i n s).op = s.op := rfl
@[simp] theorem addCount_lg (i : Nat) (n : U32) (s : State) : (addCount i n s).lg = s.lg := rfl
@[simp] theorem addCount_sh (i : Nat) (n : U32) (s : State) : (addCount i n s).sh = s.sh.setBuf i fun b => { b with count := b.count + n } := rfl
@[simp] theorem addCount_mem (i : Nat) (n : U32) (s : State) : (addCount i n s).mem = s.mem := rfl
@[simp] theorem addCount_env (i : Nat) (n : U32) (s : State) : (addCount i n s).env = s.env := rfl

@[simp] theorem storeCount_cfg (i : Nat) (n : U32) (s : State) : (storeCount i n s).cfg = s.cfg := rfl
@[simp] theorem storeCount_sd (i : Nat) (n : U32) (s : State) : (storeCount i n s).sd = s.sd := rfl
@[simp] theorem storeCount_op (i : Nat) (n : U32) (s : State) : (storeCount i n s).op = s.op := rfl
@[simp] theorem storeCount_lg (i : Nat) (n : U32) (s : State) : (storeCount i n s).lg = s.lg := rfl
@[simp] theorem storeCount_sh (i : Nat) (n : U32) (s : State) : (storeCount i n s).sh = s.sh.setBuf i fun b => { b with count := n } := rfl
@[simp] theorem storeCount_mem (i : Nat) (n : U32) (s : State) : (storeCount i n s).mem = s.mem := rfl
@[simp] theorem storeCount_env (i : Nat) (n : U32) (s : State) : (storeCount i n s).env = s.env := rfl

@[simp] theorem storePending_cfg (i : Nat) (v : Bool) (s : State) : (storePending i v s).cfg = s.cfg := rfl
@[simp] theorem storePending_sd (i : Nat) (v : Bool) (s : State) : (storePending i v s).sd = s.sd := rfl
@[simp] theorem storePending_op (i : Nat) (v : Bool) (s : State) : (storePending i v s).op = s.op := rfl
@[simp] theorem storePending_lg (i : Nat) (v : Bool) (s : State) : (storePending i v s).lg = s.lg := rfl
@[simp] theorem storePending_sh (i : Nat) (v : Bool) (s : State) : (storePending i v s).sh = s.sh.setBuf i fun b => { b with pending := v } := rfl
@[simp] theorem storePending_mem (i : Nat) (v : Bool) (s : State) : (storePending i v s).mem = s.mem := rfl
@[simp] theorem storePending_env (i : Nat) (v : Bool) (s : State) : (storePending i v s).env = s.env := rfl

@[simp] theorem enterInit_cfg (s : State) : (enterInit s).cfg = s.cfg := rfl
@[simp] theorem enterInit_op (s : State) : (enterInit s).op = s.op := rfl
@[simp] theorem enterInit_lg (s : State) : (enterInit s).lg = s.lg := rfl
@[simp] theorem enterInit_sh (s : State) : (enterInit s).sh = s.sh := rfl
@[simp] theorem enterInit_mem (s : State) : (enterInit s).mem = s.mem := rfl
@[simp] theorem enterInit_env (s : State) : (enterInit s).env = s.env := rfl

@[simp] theorem finish_cfg (ok : Bool) (dest : SdState) (s : State) : (finish ok dest s).cfg = s.cfg := rfl
@[simp] theorem finish_op (ok : Bool) (dest : SdState) (s : State) : (finish ok dest s).op = { s.op with valid := false } := rfl
@[simp] theorem finish_lg (ok : Bool) (dest : SdState) (s : State) : (finish ok dest s).lg = s.lg := rfl
@[simp] theorem finish_sh (ok : Bool) (dest : SdState) (s : State) : (finish ok dest s).sh = s.sh := rfl
@[simp] theorem finish_mem (ok : Bool) (dest : SdState) (s : State) : (finish ok dest s).mem = s.mem := rfl
@[simp] theorem finish_env (ok : Bool) (dest : SdState) (s : State) : (finish ok dest s).env = { s.env with cbQueue := some ⟨s.op.cb, s.op.ctx, ok, s.op.done⟩ } := rfl

@[simp] theorem opStarted_cfg (dir : OpDir) (addr count : U32) (buf : Ptr) (cb : Cb) (ctx : U32) (s : State) : (opStarted dir addr count buf cb ctx s).cfg = s.cfg := rfl
@[simp] theorem opStarted_sd (dir : OpDir) (addr count : U32) (buf : Ptr) (cb : Cb) (ctx : U32) (s : State) : (opStarted dir addr count buf cb ctx s).sd = { s.sd with state := opState dir, opPhase := firstPhase dir, cmdPh := .idle } := rfl
@[simp] theorem opStarted_lg (dir : OpDir) (addr count : U32) (buf : Ptr) (cb : Cb) (ctx : U32) (s : State) : (opStarted dir addr count buf cb ctx s).lg = s.lg := rfl
@[simp] theorem opStarted_sh (dir : OpDir) (addr count : U32) (buf : Ptr) (cb : Cb) (ctx : U32) (s : State) : (opStarted dir addr count buf cb ctx s).sh = s.sh := rfl
@[simp] theorem opStarted_mem (dir : OpDir) (addr count : U32) (buf : Ptr) (cb : Cb) (ctx : U32) (s : State) : (opStarted dir addr count buf cb ctx s).mem = s.mem := rfl
@[simp] theorem opStarted_env (dir : OpDir) (addr count : U32) (buf : Ptr) (cb : Cb) (ctx : U32) (s : State) : (opStarted dir addr count buf cb ctx s).env = s.env := rfl

@[simp] theorem logFail_cfg (st : LogState) (e : Err) (s : State) : (logFail st e s).cfg = s.cfg := rfl
@[simp] theorem logFail_sd (st : LogState) (e : Err) (s : State) : (logFail st e s).sd = s.sd := rfl
@[simp] theorem logFail_op (st : LogState) (e : Err) (s : State) : (logFail st e s).op = s.op := rfl
@[simp] theorem logFail_lg (st : LogState) (e : Err) (s : State) : (logFail st e s).lg = { s.lg with state := st, failReason := e } := rfl
@[simp] theorem logFail_sh (st : LogState) (e : Err) (s : State) : (logFail st e s).sh = s.sh := rfl
@[simp] theorem logFail_mem (st : LogState) (e : Err) (s : State) : (logFail st e s).mem = s.mem := rfl
@[simp] theorem logFail_env (st : LogState) (e : Err) (s : State) : (logFail st e s).env = s.env := rfl

@[simp] theorem latchInputs_cfg (now : U32) (cd : Bool) (s : State) : (latchInputs now cd s).cfg = s.cfg := rfl
@[simp] theorem latchInputs_sd (now : U32) (cd : Bool) (s : State) : (latchInputs now cd s).sd = s.sd := rfl
@[simp] theorem latchInputs_op (now : U32) (cd : Bool) (s : State) : (latchInputs now cd s).op = s.op := rfl
@[simp] theorem latchInputs_lg (now : U32) (cd : Bool) (s : State) : (latchInputs now cd s).lg = s.lg := rfl
@[simp] theorem latchInputs_sh (now : U32) (cd : Bool) (s : State) : (latchInputs now cd s).sh = s.sh := rfl
@[simp] theorem latchInputs_mem (now : U32) (cd : Bool) (s : State) : (latchInputs now cd s).mem = s.mem := rfl
@[simp] theorem latchInputs_env (now : U32) (cd : Bool) (s : State) : (latchInputs now cd s).env = { s.env with now := now, cardDetect := cd || !s.cfg.hasCardDetect } := rfl

@[simp] theorem inContext_cfg (c : Ctx) (s : State) : (inContext c s).cfg = s.cfg := rfl
@[simp] theorem inContext_sd (c : Ctx) (s : State) : (inContext c s).sd = s.sd := rfl
@[simp] theorem inContext_op (c : Ctx) (s : State) : (inContext c s).op = s.op := rfl
@[simp] theorem inContext_lg (c : Ctx) (s : State) : (inContext c s).lg = s.lg := rfl
@[simp] theorem inContext_sh (c : Ctx) (s : State) : (inContext c s).sh = s.sh := rfl
@[simp] theorem inContext_mem (c : Ctx) (s : State) : (inContext c s).mem = s.mem := rfl
@[simp] theorem inContext_env (c : Ctx) (s : State) : (inContext c s).env = { s.env with ctx := c } := rfl

/-! The buffers (R55, R60). -/

theorem Shared.setBuf_zero (x : Shared) (f : Buf → Buf) : x.setBuf 0 f = { x with buf0 := f x.buf0 } := rfl
theorem Shared.setBuf_one (x : Shared) (f : Buf → Buf) : x.setBuf 1 f = { x with buf1 := f x.buf1 } := rfl
@[simp] theorem Shared.buf_zero (x : Shared) : x.buf 0 = x.buf0 := rfl
@[simp] theorem Shared.buf_one (x : Shared) : x.buf 1 = x.buf1 := rfl

@[simp] theorem Shared.setBuf_ip (x : Shared) (i : Nat) (f : Buf → Buf) : (x.setBuf i f).ip = x.ip := by
  unfold Shared.setBuf; split <;> rfl

@[simp] theorem Shared.setBuf_missed (x : Shared) (i : Nat) (f : Buf → Buf) : (x.setBuf i f).missed = x.missed := by
  unfold Shared.setBuf; split <;> rfl

@[simp] theorem Shared.buf_setBuf (x : Shared) (i : Nat) (f : Buf → Buf) : (x.setBuf i f).buf i = f (x.buf i) := by
  unfold Shared.setBuf Shared.buf; split <;> rfl

/-- The other buffer is untouched. -/
theorem Shared.buf_setBuf_other (x : Shared) (i j : Nat) (f : Buf → Buf) (h : (i = 0) ≠ (j = 0)) :
    (x.setBuf i f).buf j = x.buf j := by
  unfold Shared.setBuf Shared.buf
  by_cases hi : i = 0 <;> by_cases hj : j = 0 <;> simp_all

end Sys2Proof.Machine
end

