-- ==== Sys2Proof/Laws/Memory.lean ====
section
/-! SUPPORT. The laws of memory: a read after a write, the frame, and the canonical form kept by every operation. -/

namespace Sys2Proof.Machine
set_option Elab.async false

/-! ## One byte -/

/-- A write leaves every other address alone, in any list. -/
theorem Memory.read_write_other (m : Memory) (x y : Nat) (b : Byte) (h : y ≠ x) :
    (m.write x b).read y = m.read y := by
  induction m with
  | nil => simp only [Memory.write]; split <;> simp [Memory.read, h]
  | cons c rest ih =>
    obtain ⟨a, v⟩ := c
    simp only [Memory.write]
    split
    · split <;> simp [Memory.read, h]
    · split
      · subst_vars; split <;> simp [Memory.read, h]
      · simp only [Memory.read, ih]

/-- An address below every listed one is unlisted. -/
theorem Memory.read_above (m : Memory) (lo x : Nat) (h : Memory.above lo m = true) (hx : x ≤ lo) :
    m.read x = Memory.unlisted := by
  induction m with
  | nil => rfl
  | cons c rest ih =>
    obtain ⟨a, v⟩ := c
    simp only [Memory.above, List.all_cons, Bool.and_eq_true, decide_eq_true_eq] at h
    have : x ≠ a := by omega
    simp only [Memory.read, this, if_false]
    exact ih (by simpa [Memory.above] using h.2)

/-- Lowering the bound. -/
theorem Memory.above_mono (m : Memory) (lo hi : Nat) (h : Memory.above hi m = true) (hl : lo ≤ hi) :
    Memory.above lo m = true := by
  simp only [Memory.above, List.all_eq_true, decide_eq_true_eq] at *
  intro c hc
  have := h c hc
  omega

/-- In the canonical form a read after a write to the same address gives the value written. -/
theorem Memory.read_write_same (m : Memory) (x : Nat) (b : Byte) (h : m.wf = true) : (m.write x b).read x = b := by
  induction m with
  | nil => simp only [Memory.write]; split <;> simp_all [Memory.read]
  | cons c rest ih =>
    obtain ⟨a, v⟩ := c
    simp only [Memory.wf, Bool.and_eq_true] at h
    simp only [Memory.write]
    split
    · rename_i hx
      split
      · rename_i hb
        have hne : x ≠ a := by omega
        simp only [Memory.read, hne, if_false, hb]
        exact Memory.read_above rest a x h.1.2 (by omega)
      · simp [Memory.read]
    · split
      · rename_i hxa
        subst hxa
        split
        · rename_i hb
          simp only [hb]
          exact Memory.read_above rest x x h.1.2 (by omega)
        · simp [Memory.read]
      · rename_i hne
        simp only [Memory.read, hne, if_false]
        exact ih h.2

/-- A write above a bound stays above it. -/
theorem Memory.above_write (m : Memory) (lo x : Nat) (b : Byte) (h : Memory.above lo m = true) (hx : lo < x) :
    Memory.above lo (m.write x b) = true := by
  induction m with
  | nil => simp only [Memory.write]; split <;> simp [Memory.above, hx]
  | cons c rest ih =>
    obtain ⟨a, v⟩ := c
    simp only [Memory.above, List.all_cons, Bool.and_eq_true, decide_eq_true_eq] at h ih ⊢
    simp only [Memory.write]
    split
    · split <;> simp [h.1, h.2, hx]
    · split
      · split <;> simp_all <;> exact h.2
      · simp only [List.all_cons, Bool.and_eq_true, decide_eq_true_eq]
        exact ⟨h.1, ih h.2⟩

/-- A write keeps the canonical form. -/
theorem Memory.wf_write (m : Memory) (x : Nat) (b : Byte) (h : m.wf = true) : (m.write x b).wf = true := by
  induction m with
  | nil => simp only [Memory.write]; split <;> simp_all [Memory.wf, Memory.above]
  | cons c rest ih =>
    obtain ⟨a, v⟩ := c
    have h0 := h
    simp only [Memory.wf, Bool.and_eq_true] at h
    simp only [Memory.write]
    split
    · rename_i hx
      split
      · exact h0
      · rename_i hb
        have hab : Memory.above x ((a, v) :: rest) = true := by
          simp only [Memory.above, List.all_cons, Bool.and_eq_true, decide_eq_true_eq]
          exact ⟨hx, by simpa [Memory.above] using Memory.above_mono rest x a h.1.2 (by omega)⟩
        show ((b != Memory.unlisted && Memory.above x ((a, v) :: rest)) && Memory.wf ((a, v) :: rest)) = true
        rw [h0, hab]; simp [hb]
    · split
      · rename_i hxa
        subst hxa
        split
        · exact h.2
        · rename_i hb
          simp only [Memory.wf, Bool.and_eq_true]
          exact ⟨⟨by simp [hb], h.1.2⟩, h.2⟩
      · simp only [Memory.wf, Bool.and_eq_true]
        exact ⟨⟨h.1.1, Memory.above_write rest a x b h.1.2 (by omega)⟩, ih h.2⟩

/-! ## Runs of bytes -/

@[simp] theorem Memory.length_readList (m : Memory) (a n : Nat) : (m.readList a n).length = n := by
  induction n generalizing a with
  | zero => rfl
  | succ n ih => simp [Memory.readList, ih]

/-- Byte `k` of a read is the byte at its address. -/
theorem Memory.getElem_readList (m : Memory) (a n k : Nat) (h : k < n) :
    (m.readList a n)[k]'(by simpa using h) = m.read (a + k) := by
  induction n generalizing a k with
  | zero => omega
  | succ n ih =>
    cases k with
    | zero => rfl
    | succ k =>
      simp only [Memory.readList, List.getElem_cons_succ]
      rw [ih (a + 1) k (by omega)]
      congr 1
      omega

/-- Writing keeps the canonical form. -/
theorem Memory.wf_writeList (bs : List Byte) (m : Memory) (a : Nat) (h : m.wf = true) : (m.writeList a bs).wf = true := by
  induction bs generalizing m a with
  | nil => exact h
  | cons b bs ih => exact ih _ _ (Memory.wf_write m a b h)

/-- Writing leaves every address outside the range alone. -/
theorem Memory.read_writeList_outside (bs : List Byte) (m : Memory) (a x : Nat) (h : x < a ∨ a + bs.length ≤ x) :
    (m.writeList a bs).read x = m.read x := by
  induction bs generalizing m a with
  | nil => rfl
  | cons b bs ih =>
    simp only [List.length_cons] at h
    simp only [Memory.writeList]
    rw [ih _ _ (by omega)]
    exact Memory.read_write_other m a x b (by omega)

/-- In the canonical form byte `k` of the range holds byte `k` written. -/
theorem Memory.read_writeList_inside (bs : List Byte) (m : Memory) (a k : Nat) (hw : m.wf = true) (h : k < bs.length) :
    (m.writeList a bs).read (a + k) = bs[k] := by
  induction bs generalizing m a k with
  | nil => simp at h
  | cons b bs ih =>
    simp only [Memory.writeList]
    cases k with
    | zero =>
      simp only [Nat.add_zero, List.getElem_cons_zero]
      rw [Memory.read_writeList_outside bs _ (a + 1) a (by omega)]
      exact Memory.read_write_same m a b hw
    | succ k =>
      simp only [List.getElem_cons_succ]
      have := ih (m.write a b) (a + 1) k (Memory.wf_write m a b hw) (by simpa using h)
      rw [← this]
      congr 1
      omega

/-- Reading back what was written. -/
theorem Memory.readList_writeList (bs : List Byte) (m : Memory) (a : Nat) (hw : m.wf = true) :
    (m.writeList a bs).readList a bs.length = bs := by
  apply List.ext_getElem (by simp)
  intro k h1 h2
  rw [Memory.getElem_readList _ _ _ _ h2, Memory.read_writeList_inside bs m a k hw h2]

/-! ## Spaces -/

@[simp] theorem Mem.space_setSpace (m : Mem) (sp : Space) (x : Memory) : (m.setSpace sp x).space sp = x := by
  cases sp <;> rfl

theorem Mem.space_setSpace_other (m : Mem) (sp sp' : Space) (x : Memory) (h : sp' ≠ sp) :
    (m.setSpace sp x).space sp' = m.space sp' := by
  cases sp <;> cases sp' <;> first | rfl | exact absurd rfl h

/-- A store leaves every byte outside its range alone, in every space. -/
theorem State.peek_poke_outside (s : State) (sp sp' : Space) (a x : Nat) (bs : List Byte)
    (h : sp' ≠ sp ∨ x < a ∨ a + bs.length ≤ x) : (s.poke sp a bs).peek sp' x = s.peek sp' x := by
  unfold State.peek
  rw [State.poke_mem]
  by_cases hs : sp' = sp
  · subst hs
    rw [Mem.space_setSpace]
    exact Memory.read_writeList_outside bs _ a x (by simpa using h)
  · rw [Mem.space_setSpace_other _ _ _ _ hs]

/-- In the canonical form a store is read back. -/
theorem State.peek_poke_inside (s : State) (sp : Space) (a k : Nat) (bs : List Byte)
    (hw : (s.mem.space sp).wf = true) (h : k < bs.length) : (s.poke sp a bs).peek sp (a + k) = bs[k] := by
  unfold State.peek
  rw [State.poke_mem, Mem.space_setSpace]
  exact Memory.read_writeList_inside bs _ a k hw h

/-- In the canonical form a stored range is read back whole. -/
theorem State.peekList_poke (s : State) (sp : Space) (a : Nat) (bs : List Byte) (hw : (s.mem.space sp).wf = true) :
    (s.poke sp a bs).peekList sp a bs.length = bs := by
  unfold State.peekList
  rw [State.poke_mem, Mem.space_setSpace]
  exact Memory.readList_writeList bs _ a hw

/-- A store keeps every space canonical. -/
theorem State.poke_wf (s : State) (sp sp' : Space) (a : Nat) (bs : List Byte) (hw : ∀ q, (s.mem.space q).wf = true) :
    ((s.poke sp a bs).mem.space sp').wf = true := by
  rw [State.poke_mem]
  by_cases hs : sp' = sp
  · subst hs
    rw [Mem.space_setSpace]
    exact Memory.wf_writeList bs _ a (hw _)
  · rw [Mem.space_setSpace_other _ _ _ _ hs]
    exact hw _

/-- `readBytes` answers the bytes of the range, where the range exists. -/
theorem readBytes_ok {s : State} {sp : Space} {a n : Nat} {b : List Byte} (h : readBytes s sp a n = .ok b) :
    inSpace s.cfg sp a n = true ∧ b = s.peekList sp a n := by
  unfold readBytes at h
  split at h
  · rename_i hi; exact ⟨hi, by cases h; rfl⟩
  · cases h

/-- `writeBytes` answers the stored state, where the range exists. -/
theorem writeBytes_ok {s t : State} {sp : Space} {a : Nat} {bs : List Byte} (h : writeBytes s sp a bs = .ok t) :
    inSpace s.cfg sp a bs.length = true ∧ t = s.poke sp a bs := by
  unfold writeBytes at h
  split at h
  · rename_i hi; exact ⟨hi, by cases h; rfl⟩
  · cases h

theorem State.reset_wf (sp : Space) : (State.reset.mem.space sp).wf = true := by cases sp <;> rfl

end Sys2Proof.Machine
end

