-- ==== Sys2Proof/Laws/Ops.lean ====
section
/-! SUPPORT. For each shared operation one lemma that says everything it can do. -/

namespace Sys2Proof.Machine
set_option Elab.async false

/-! ## Results -/

/-- A bind that answers has a first part that answers. -/
theorem bind_eq_ok {ε α β : Type} {x : Except ε α} {f : α → Except ε β} {b : β} (h : (x >>= f) = .ok b) :
    ∃ a, x = .ok a ∧ f a = .ok b := by
  cases x with
  | error e => cases h
  | ok a => exact ⟨a, rfl, h⟩

@[simp] theorem toOutcome_ok (s : State) : toOutcome (.ok s) = .next s := rfl

theorem toOutcome_eq_next {r : Except Stop State} {t : State} : toOutcome r = .next t ↔ r = .ok t := by
  constructor
  · intro h
    cases r with
    | error e => cases e <;> cases h
    | ok s => cases h; rfl
  · rintro rfl; rfl

theorem ofOutcome_eq_ok {o : Host.Outcome State Fault Refusal} {t : State} : ofOutcome o = .ok t ↔ o = .next t := by
  constructor
  · intro h; cases o <;> cases h; rfl
  · rintro rfl; rfl

/-! ## The transport port -/

/-- `Submit`: accepted, or nothing. -/
theorem submit_cases (out : List Byte) (role : XferRole) (s : State) :
    (s.env.submitOk = true ∧ submit out role s = some (submitted out role s)) ∨
    (s.env.submitOk = false ∧ submit out role s = none) := by
  unfold submit
  cases s.env.submitOk <;> simp

/-- `OpenSession`: accepted, or nothing. -/
theorem openSession_cases (s : State) :
    (s.env.openOk = true ∧ openSession s = some (s.onSd fun d => { d with session := true })) ∨
    (s.env.openOk = false ∧ openSession s = none) := by
  unfold openSession
  cases s.env.openOk <;> simp

/-- `transmit`: the retained bytes are dropped; on acceptance the out-bytes are pending and `next` applies. -/
theorem transmit_cases (out : List Byte) (next : State → State) (s : State) :
    (s.env.submitOk = true ∧
      transmit out next s = next (submitted out .echo (s.onSd fun d => { d with rxRetain := [] }))) ∨
    (s.env.submitOk = false ∧ transmit out next s = s.onSd fun d => { d with rxRetain := [] }) := by
  unfold transmit
  rcases submit_cases out .echo (s.onSd fun d => { d with rxRetain := [] }) with ⟨h, e⟩ | ⟨h, e⟩
  · exact .inl ⟨h, by simp only [e]⟩
  · exact .inr ⟨h, by simp only [e]⟩

/-- A search: a byte found among the retained, a timeout, or a wait with a chunk submitted or refused. -/
theorem searchStep_cases (p : Byte → Bool) (w : U32) (s : State) :
    (∃ b skip rest, scan p s.sd.rxSkip s.sd.rxRetain = (some b, skip, rest) ∧
      searchStep p w s = (.found b, s.onSd fun d => { d with rxSkip := skip, rxRetain := rest })) ∨
    (∃ skip rest, scan p s.sd.rxSkip s.sd.rxRetain = (none, skip, rest) ∧
      ((expired s.env.now s.sd.tAnchor w = true ∧
        searchStep p w s = (.timeout, s.onSd fun d => { d with rxSkip := skip, rxRetain := [] })) ∨
       (expired s.env.now s.sd.tAnchor w = false ∧ s.env.submitOk = true ∧
        searchStep p w s = (.wait, submitted (List.replicate s.cfg.respChunk Config.fill) .search
          (s.onSd fun d => { d with rxSkip := skip, rxRetain := [] }))) ∨
       (expired s.env.now s.sd.tAnchor w = false ∧ s.env.submitOk = false ∧
        searchStep p w s = (.wait, s.onSd fun d => { d with rxSkip := skip, rxRetain := [] })))) := by
  unfold searchStep
  rcases h : scan p s.sd.rxSkip s.sd.rxRetain with ⟨o, skip, rest⟩
  cases o with
  | some b => exact .inl ⟨b, skip, rest, rfl, rfl⟩
  | none =>
    refine .inr ⟨skip, rest, rfl, ?_⟩
    cases he : expired s.env.now s.sd.tAnchor w with
    | true => exact .inl ⟨rfl, by simp [he]⟩
    | false =>
      cases hs : s.env.submitOk with
      | true => exact .inr (.inl ⟨rfl, rfl, by simp [he, submit, hs]⟩)
      | false => exact .inr (.inr ⟨rfl, rfl, by simp [he, submit, hs]⟩)

/-- Nothing retained: nothing is found. -/
@[simp] theorem scan_nil (p : Byte → Bool) (skip : Bool) : scan p skip [] = (none, skip, []) := by
  cases skip <;> rfl

/-- The first byte matches and none is skipped. -/
theorem scan_head (p : Byte → Bool) (b : Byte) (rest : List Byte) (h : p b = true) :
    scan p false (b :: rest) = (some b, false, rest) := by simp [scan, h]

/-- A byte that does not match is consumed. -/
theorem scan_miss (p : Byte → Bool) (b : Byte) (rest : List Byte) (h : p b = false) :
    scan p false (b :: rest) = scan p false rest := by simp [scan, h]

/-! ## Admission -/

/-- `read` and `write`: admitted, or refused with nothing changed. -/
theorem startOp_cases (dir : OpDir) (addr count : U32) (buf : Ptr) (cb : Cb) (ctx : U32) (s : State) :
    (admits s addr count = true ∧
      startOp dir addr count buf cb ctx s = (.ok, opStarted dir addr count buf cb ctx s)) ∨
    (admits s addr count = false ∧ startOp dir addr count buf cb ctx s = (.rejected, s)) := by
  unfold startOp
  cases admits s addr count <;> simp

/-! ## Preemption -/

/-- In a quiet state an atomic step is not preempted. -/
theorem preemptPoint_quiet {s : State} (h : quiet s = true) : preemptPoint s = .ok s := by
  unfold quiet at h
  unfold preemptPoint
  cases hc : s.env.ctx <;> cases hk : s.env.critical <;> cases hi : s.env.irqs <;> simp_all

/-- Quiet depends on the environment alone. -/
theorem quiet_congr {s t : State} (h : t.env = s.env) : quiet t = quiet s := by simp [quiet, h]

/-! ## The handler of the control tuple -/

/-- A command that has not ended has no response to examine. -/
theorem respMeaningless_of_ne_done {s : State} (h : s.sd.cmdPh ≠ .done) : respMeaningless s = false := by
  simp [respMeaningless, h]

/-- A whole response may be examined. -/
theorem respMeaningless_of_got {s : State} (h : respExamined s ≤ s.sd.respGot) : respMeaningless s = false := by
  have : ¬s.sd.respGot < respExamined s := by omega
  simp [respMeaningless, this]

/-- Where nothing without a meaning would be read, the handler is the one of the state's own phase (R279). -/
theorem sdHandler_read {s : State} (hs : s.sd.state = .read) (hv : s.op.valid = true) (hr : respMeaningless s = false) :
    sdHandler s = readHandler s := by simp [sdHandler, hs, hv, hr]

theorem sdHandler_write {s : State} (hs : s.sd.state = .write) (hv : s.op.valid = true) (hr : respMeaningless s = false) :
    sdHandler s = writeHandler s := by simp [sdHandler, hs, hv, hr]

theorem sdHandler_init {s : State} (hs : s.sd.state = .init) (hr : respMeaningless s = false) :
    sdHandler s = initHandler s := by simp [sdHandler, hs, hr]

/-! ## Words on the wire -/

/-- A word that is not selected changes nothing. -/
theorem sendWord_unselected (s : State) : sendWord false s = .next s := rfl

/-- A selected word is one handler run. -/
theorem sendWord_selected (s : State) (h : engineFree s = true) :
    sendWord true s = toOutcome (sdHandler s >>= fun r => runCallback r.2) := by
  unfold sendWord
  simp only [Bool.true_and, h, if_true]

/-- Without a requested callback nothing is run. -/
theorem runCallback_none {s : State} (h : s.env.cbQueue = none) : runCallback s = .ok s := by
  unfold runCallback; rw [h]

/-- With no transaction pending and the card present a round is the handler's run. -/
theorem pollBody_free {s : State} (h : engineFree s = true) : pollBody s = sdHandler s := by
  unfold engineFree at h
  simp only [Bool.and_eq_true, Bool.not_eq_true'] at h
  unfold pollBody
  simp [h.1, h.2, bind, Except.bind]

/-- A transaction in progress: the round changes nothing (R278, R304). -/
theorem pollBody_waiting {s : State} (hp : s.sd.xferPending = true) (hd : s.env.done = false) :
    pollBody s = .ok (.yield, s) := by
  unfold pollBody
  simp [hp, hd]

end Sys2Proof.Machine
end

