-- ==== Sys2Proof/Laws/Codecs.lean ====
section
/-! SUPPORT. What a query and a store of a block at a HOST address answer, and the bytes of a block read. -/

namespace Sys2Proof.Machine
set_option Elab.async false

/-- A byte of a block read is the byte at its address. -/
theorem byteAt_peekList (s : State) (sp : Space) (a n k : Nat) (h : k < n) : byteAt (s.peekList sp a n) k = s.peek sp (a + k) := by
  unfold byteAt State.peekList State.peek
  rw [List.getD_eq_getElem?_getD, List.getElem?_eq_getElem (by simpa using h), Memory.getElem_readList _ _ _ _ h]
  rfl

/-- A block read is the bytes at its addresses, in order. -/
theorem peekList_eq_map (s : State) (sp : Space) (a n : Nat) :
    s.peekList sp a n = (List.range n).map fun k => s.peek sp (a + k) := by
  apply List.ext_getElem
  · simp [State.peekList]
  · intro k h1 h2
    have : k < n := by simpa using h2
    simp only [List.getElem_map, List.getElem_range]
    exact Memory.getElem_readList _ _ _ _ this

/-- A word of a block read is the word at its address. -/
theorem le32_peekList (s : State) (sp : Space) (a n k : Nat) (h : k + 3 < n) :
    le32 (s.peekList sp a n) k = field32 s sp (a + k) := by
  unfold le32 field32
  rw [byteAt_peekList _ _ _ _ _ (by omega), byteAt_peekList _ _ _ _ _ (by omega), byteAt_peekList _ _ _ _ _ (by omega),
    byteAt_peekList _ _ _ _ _ (by omega)]
  simp only [Nat.add_assoc]

/-- A query of readable bytes answers its value and changes nothing else. -/
theorem hostQuery_readable (s : State) (a : HostAddr) (n : Nat) (f : List Byte → Ret) (h : hostReadable s a n = true) :
    toOutcome (hostQuery a n f s) = .next (putRet (f (s.peekList .host a.toNat n)) s) := by
  unfold hostQuery readBytes
  unfold hostReadable at h
  simp [h, bind, Except.bind, toOutcome]

/-- A store into a block that exists answers the stored state with its value. -/
theorem hostStore_readable (s : State) (a : HostAddr) (off : Nat) (bytes : List Byte) (r : Ret) (h : hostReadable s a 512 = true) :
    toOutcome (hostStore a off bytes r s) = .next (putRet r (s.poke .host (a.toNat + off) bytes)) := by
  unfold hostStore
  unfold hostReadable at h
  simp [h, toOutcome]

end Sys2Proof.Machine
end

