-- ==== Sys2Proof/Laws/PerInstr.lean ====
section
/-! SUPPORT. The per-instruction family: an encoding is not empty and fits in the longest record. -/

namespace Sys2Proof.Laws.EncodeFits
set_option Elab.async false

/-- The bytes of an instruction are at least one and at most the longest record's. -/
def Statement (i : Instr) : Prop := 0 < (encode i).length ∧ (encode i).length ≤ longestRecord

theorem cmd0 : ∀ crc, Statement (.cmd0 crc) := by
  intros
  exact ⟨Nat.lt_of_sub_eq_succ rfl, Nat.le_of_sub_eq_zero rfl⟩
theorem cmd1 : ∀ crc, Statement (.cmd1 crc) := by
  intros
  exact ⟨Nat.lt_of_sub_eq_succ rfl, Nat.le_of_sub_eq_zero rfl⟩
theorem cmd8 : ∀ crc, Statement (.cmd8 crc) := by
  intros
  exact ⟨Nat.lt_of_sub_eq_succ rfl, Nat.le_of_sub_eq_zero rfl⟩
theorem cmd9 : ∀ crc, Statement (.cmd9 crc) := by
  intros
  exact ⟨Nat.lt_of_sub_eq_succ rfl, Nat.le_of_sub_eq_zero rfl⟩
theorem cmd12 : ∀ crc, Statement (.cmd12 crc) := by
  intros
  exact ⟨Nat.lt_of_sub_eq_succ rfl, Nat.le_of_sub_eq_zero rfl⟩
theorem cmd13 : ∀ crc, Statement (.cmd13 crc) := by
  intros
  exact ⟨Nat.lt_of_sub_eq_succ rfl, Nat.le_of_sub_eq_zero rfl⟩
theorem cmd16 : ∀ crc, Statement (.cmd16 crc) := by
  intros
  exact ⟨Nat.lt_of_sub_eq_succ rfl, Nat.le_of_sub_eq_zero rfl⟩
theorem cmd17 : ∀ arg crc, Statement (.cmd17 arg crc) := by
  intros
  exact ⟨Nat.lt_of_sub_eq_succ rfl, Nat.le_of_sub_eq_zero rfl⟩
theorem cmd18 : ∀ arg crc, Statement (.cmd18 arg crc) := by
  intros
  exact ⟨Nat.lt_of_sub_eq_succ rfl, Nat.le_of_sub_eq_zero rfl⟩
theorem cmd24 : ∀ arg crc, Statement (.cmd24 arg crc) := by
  intros
  exact ⟨Nat.lt_of_sub_eq_succ rfl, Nat.le_of_sub_eq_zero rfl⟩
theorem cmd25 : ∀ arg crc, Statement (.cmd25 arg crc) := by
  intros
  exact ⟨Nat.lt_of_sub_eq_succ rfl, Nat.le_of_sub_eq_zero rfl⟩
theorem cmd55 : ∀ crc, Statement (.cmd55 crc) := by
  intros
  exact ⟨Nat.lt_of_sub_eq_succ rfl, Nat.le_of_sub_eq_zero rfl⟩
theorem acmd41 : ∀ crc, Statement (.acmd41 crc) := by
  intros
  exact ⟨Nat.lt_of_sub_eq_succ rfl, Nat.le_of_sub_eq_zero rfl⟩
theorem cmd58 : ∀ crc, Statement (.cmd58 crc) := by
  intros
  exact ⟨Nat.lt_of_sub_eq_succ rfl, Nat.le_of_sub_eq_zero rfl⟩
theorem cmd59 : ∀ useCrc crc, Statement (.cmd59 useCrc crc) := by
  intros
  exact ⟨Nat.lt_of_sub_eq_succ rfl, Nat.le_of_sub_eq_zero rfl⟩
theorem r1 : ∀ status, Statement (.r1 status) := by
  intros
  exact ⟨Nat.lt_of_sub_eq_succ rfl, Nat.le_of_sub_eq_zero rfl⟩
theorem r1b : ∀ status, Statement (.r1b status) := by
  intros
  exact ⟨Nat.lt_of_sub_eq_succ rfl, Nat.le_of_sub_eq_zero rfl⟩
theorem r2 : ∀ status second, Statement (.r2 status second) := by
  intros
  exact ⟨Nat.lt_of_sub_eq_succ rfl, Nat.le_of_sub_eq_zero rfl⟩
theorem r3 : ∀ status ocr, Statement (.r3 status ocr) := by
  intros
  exact ⟨Nat.lt_of_sub_eq_succ rfl, Nat.le_of_sub_eq_zero rfl⟩
theorem r7 : ∀ status other voltage echo, Statement (.r7 status other voltage echo) := by
  intros
  exact ⟨Nat.lt_of_sub_eq_succ rfl, Nat.le_of_sub_eq_zero rfl⟩
theorem tokStart : Statement (.tokStart) := by
  exact ⟨by decide, by decide⟩
theorem tokStartMulti : Statement (.tokStartMulti) := by
  exact ⟨by decide, by decide⟩
theorem tokStop : Statement (.tokStop) := by
  exact ⟨by decide, by decide⟩
theorem dataResponse : ∀ ignored status, Statement (.dataResponse ignored status) := by
  intros
  exact ⟨Nat.lt_of_sub_eq_succ rfl, Nat.le_of_sub_eq_zero rfl⟩
theorem dataError : ∀ bits, Statement (.dataError bits) := by
  intros
  exact ⟨Nat.lt_of_sub_eq_succ rfl, Nat.le_of_sub_eq_zero rfl⟩
theorem sdService : ∀ now cardDetect, Statement (.sdService now cardDetect) := by
  intros
  exact ⟨Nat.lt_of_sub_eq_succ rfl, Nat.le_of_sub_eq_zero rfl⟩
theorem read : ∀ addr count buf cb ctx, Statement (.read addr count buf cb ctx) := by
  intros
  exact ⟨Nat.lt_of_sub_eq_succ rfl, Nat.le_of_sub_eq_zero rfl⟩
theorem write : ∀ addr count buf cb ctx, Statement (.write addr count buf cb ctx) := by
  intros
  exact ⟨Nat.lt_of_sub_eq_succ rfl, Nat.le_of_sub_eq_zero rfl⟩
theorem status : Statement (.status) := by
  exact ⟨by decide, by decide⟩
theorem capacityBlocks : Statement (.capacityBlocks) := by
  exact ⟨by decide, by decide⟩
theorem sdState : Statement (.sdState) := by
  exact ⟨by decide, by decide⟩
theorem sdLastError : Statement (.sdLastError) := by
  exact ⟨by decide, by decide⟩
theorem logService : ∀ now, Statement (.logService now) := by
  intros
  exact ⟨Nat.lt_of_sub_eq_succ rfl, Nat.le_of_sub_eq_zero rfl⟩
theorem log : ∀ data len, Statement (.log data len) := by
  intros
  exact ⟨Nat.lt_of_sub_eq_succ rfl, Nat.le_of_sub_eq_zero rfl⟩
theorem logGather : ∀ segments count, Statement (.logGather segments count) := by
  intros
  exact ⟨Nat.lt_of_sub_eq_succ rfl, Nat.le_of_sub_eq_zero rfl⟩
theorem checkout : ∀ len, Statement (.checkout len) := by
  intros
  exact ⟨Nat.lt_of_sub_eq_succ rfl, Nat.le_of_sub_eq_zero rfl⟩
theorem checkin : ∀ handle, Statement (.checkin handle) := by
  intros
  exact ⟨Nat.lt_of_sub_eq_succ rfl, Nat.le_of_sub_eq_zero rfl⟩
theorem pause : Statement (.pause) := by
  exact ⟨by decide, by decide⟩
theorem resume : Statement (.resume) := by
  exact ⟨by decide, by decide⟩
theorem setFlightTimestamp : ∀ utcSeconds, Statement (.setFlightTimestamp utcSeconds) := by
  intros
  exact ⟨Nat.lt_of_sub_eq_succ rfl, Nat.le_of_sub_eq_zero rfl⟩
theorem flightBlocks : Statement (.flightBlocks) := by
  exact ⟨by decide, by decide⟩
theorem missedCheckouts : Statement (.missedCheckouts) := by
  exact ⟨by decide, by decide⟩
theorem logState : Statement (.logState) := by
  exact ⟨by decide, by decide⟩
theorem logFailReason : Statement (.logFailReason) := by
  exact ⟨by decide, by decide⟩
theorem crc7 : ∀ data len, Statement (.crc7 data len) := by
  intros
  exact ⟨Nat.lt_of_sub_eq_succ rfl, Nat.le_of_sub_eq_zero rfl⟩
theorem crc16Update : ∀ crc byte, Statement (.crc16Update crc byte) := by
  intros
  exact ⟨Nat.lt_of_sub_eq_succ rfl, Nat.le_of_sub_eq_zero rfl⟩
theorem crc16 : ∀ data len, Statement (.crc16 data len) := by
  intros
  exact ⟨Nat.lt_of_sub_eq_succ rfl, Nat.le_of_sub_eq_zero rfl⟩
theorem buildCommand : ∀ index argument, Statement (.buildCommand index argument) := by
  intros
  exact ⟨Nat.lt_of_sub_eq_succ rfl, Nat.le_of_sub_eq_zero rfl⟩
theorem parseResponse : ∀ window len expectedLen, Statement (.parseResponse window len expectedLen) := by
  intros
  exact ⟨Nat.lt_of_sub_eq_succ rfl, Nat.le_of_sub_eq_zero rfl⟩
theorem csdCapacity : ∀ csd, Statement (.csdCapacity csd) := by
  intros
  exact ⟨Nat.lt_of_sub_eq_succ rfl, Nat.le_of_sub_eq_zero rfl⟩
theorem mbrIsValid : ∀ block, Statement (.mbrIsValid block) := by
  intros
  exact ⟨Nat.lt_of_sub_eq_succ rfl, Nat.le_of_sub_eq_zero rfl⟩
theorem mbrGetEntry : ∀ block n, Statement (.mbrGetEntry block n) := by
  intros
  exact ⟨Nat.lt_of_sub_eq_succ rfl, Nat.le_of_sub_eq_zero rfl⟩
theorem mbrEntryIsValid : ∀ entry, Statement (.mbrEntryIsValid entry) := by
  intros
  exact ⟨Nat.lt_of_sub_eq_succ rfl, Nat.le_of_sub_eq_zero rfl⟩
theorem mbrEntryType : ∀ entry, Statement (.mbrEntryType entry) := by
  intros
  exact ⟨Nat.lt_of_sub_eq_succ rfl, Nat.le_of_sub_eq_zero rfl⟩
theorem mbrEntryStartLba : ∀ entry, Statement (.mbrEntryStartLba entry) := by
  intros
  exact ⟨Nat.lt_of_sub_eq_succ rfl, Nat.le_of_sub_eq_zero rfl⟩
theorem mbrEntryLength : ∀ entry, Statement (.mbrEntryLength entry) := by
  intros
  exact ⟨Nat.lt_of_sub_eq_succ rfl, Nat.le_of_sub_eq_zero rfl⟩
theorem mbrInitTable : ∀ block, Statement (.mbrInitTable block) := by
  intros
  exact ⟨Nat.lt_of_sub_eq_succ rfl, Nat.le_of_sub_eq_zero rfl⟩
theorem mbrInitEntry : ∀ block n type start length, Statement (.mbrInitEntry block n type start length) := by
  intros
  exact ⟨Nat.lt_of_sub_eq_succ rfl, Nat.le_of_sub_eq_zero rfl⟩
theorem sbIsValid : ∀ block, Statement (.sbIsValid block) := by
  intros
  exact ⟨Nat.lt_of_sub_eq_succ rfl, Nat.le_of_sub_eq_zero rfl⟩
theorem sbVersion : ∀ block, Statement (.sbVersion block) := by
  intros
  exact ⟨Nat.lt_of_sub_eq_succ rfl, Nat.le_of_sub_eq_zero rfl⟩
theorem sbContinued : ∀ block, Statement (.sbContinued block) := by
  intros
  exact ⟨Nat.lt_of_sub_eq_succ rfl, Nat.le_of_sub_eq_zero rfl⟩
theorem sbPartitionLength : ∀ block, Statement (.sbPartitionLength block) := by
  intros
  exact ⟨Nat.lt_of_sub_eq_succ rfl, Nat.le_of_sub_eq_zero rfl⟩
theorem sbFlightGet : ∀ block i, Statement (.sbFlightGet block i) := by
  intros
  exact ⟨Nat.lt_of_sub_eq_succ rfl, Nat.le_of_sub_eq_zero rfl⟩
theorem sbFlightSet : ∀ block i first num ts, Statement (.sbFlightSet block i first num ts) := by
  intros
  exact ⟨Nat.lt_of_sub_eq_succ rfl, Nat.le_of_sub_eq_zero rfl⟩
theorem sbFlightSlotFor : ∀ block cont, Statement (.sbFlightSlotFor block cont) := by
  intros
  exact ⟨Nat.lt_of_sub_eq_succ rfl, Nat.le_of_sub_eq_zero rfl⟩
theorem sbInit : ∀ block partLen, Statement (.sbInit block partLen) := by
  intros
  exact ⟨Nat.lt_of_sub_eq_succ rfl, Nat.le_of_sub_eq_zero rfl⟩
theorem hdrEncode : ∀ cls type length, Statement (.hdrEncode cls type length) := by
  intros
  exact ⟨Nat.lt_of_sub_eq_succ rfl, Nat.le_of_sub_eq_zero rfl⟩
theorem hdrDecode : ∀ b0 b1 b2 b3, Statement (.hdrDecode b0 b1 b2 b3) := by
  intros
  exact ⟨Nat.lt_of_sub_eq_succ rfl, Nat.le_of_sub_eq_zero rfl⟩

end Sys2Proof.Laws.EncodeFits
end

