-- ==== Sys2Proof/Laws/Reservation.lean ====
section
/-! SUPPORT. The insertion-point word's fields, and the first round of a checkout in a quiet state. -/

namespace Sys2Proof.Machine
set_option Elab.async false

/-- A well-formed word names one of the two buffers. -/
theorem ipIdx_lt {w : U32} (h : ipWellFormed w = true) : ipIdx w < 2 := by
  unfold ipWellFormed at h
  simp only [Config.nBuf, Bool.and_eq_true] at h
  exact of_decide_eq_true h.2

/-- The number `mk_ip(1, i, o)` is. -/
theorem mkIp_toNat (i o : Nat) (hi : i < 2) (ho : o < 2 ^ 24) : (mkIp true i o).toNat = 2 ^ 31 + i * 2 ^ 24 + o := by
  have e2 : (BitVec.ofNat 24 o).toNat = o := by simp; omega
  unfold mkIp
  rw [BitVec.toNat_append, ← Nat.shiftLeft_add_eq_or_of_lt (BitVec.ofNat 24 o).isLt, e2, Nat.shiftLeft_eq]
  have : i = 0 ∨ i = 1 := by omega
  rcases this with rfl | rfl <;> simp

/-- The fields of `mk_ip(1, i, o)` for a buffer and an offset of 24 bits. -/
theorem mkIp_fields (i o : Nat) (hi : i < 2) (ho : o < 2 ^ 24) :
    ipWellFormed (mkIp true i o) = true ∧ ipValid (mkIp true i o) = true ∧ ipIdx (mkIp true i o) = i ∧ ipOff (mkIp true i o) = o := by
  have hn := mkIp_toNat i o hi ho
  have h2 : ipIdx (mkIp true i o) = i := by
    simp only [ipIdx, BitVec.extractLsb'_toNat, hn, Nat.shiftRight_eq_div_pow]; omega
  refine ⟨?_, ?_, h2, ?_⟩
  · have h1 : (mkIp true i o).extractLsb' 26 5 = 0#5 := by
      apply BitVec.eq_of_toNat_eq
      simp only [BitVec.extractLsb'_toNat, hn, Nat.shiftRight_eq_div_pow, BitVec.toNat_ofNat]; omega
    simp only [ipWellFormed, h1, h2, Config.nBuf, hi, decide_true, Bool.and_true, beq_self_eq_true]
  · simp only [ipValid, BitVec.getLsbD, Nat.testBit_eq_decide_div_mod_eq, hn, decide_eq_true_eq]; omega
  · simp only [ipOff, BitVec.extractLsb'_toNat, hn, Nat.shiftRight_eq_div_pow]; omega

/-- In a quiet state with an admitted length, a checkout is its loop from the current word. -/
theorem checkoutWith_quiet (s : State) (len : U32) (h0 : quiet s = true) (hn : len ≠ 0) (hl : len.toNat ≤ s.cfg.logBufCap) :
    checkoutWith preemptPoint len.toNat s =
      checkoutLoop preemptPoint len.toNat (2 * s.env.irqs.length + 4) s.sh.ip s := by
  have : len.toNat ≠ 0 := fun e => hn (BitVec.eq_of_toNat_eq (by simpa using e))
  unfold checkoutWith
  have : ¬(len.toNat = 0 ∨ s.cfg.logBufCap < len.toNat) := by omega
  simp [this, preemptPoint_quiet h0, bind, Except.bind]

end Sys2Proof.Machine
end

