-- ==== Sys2Proof/Tests/Slice0.lean ====
section
/-! SUPPORT. Tests: the checks of WellFormed, one decoding per constructor (words from 30_encoding.md, R157 and 95_test_vectors.md),
the spec's own vectors, and, for every statement with hypotheses, a state and operands that meet them. -/

namespace Sys2Proof.Tests
set_option Elab.async false
open Sys2Proof Sys2Proof.Machine

/-! ## WellFormed: an ill-formed term for each check -/

theorem test_wf_refuses_wrong_crc : (Instr.cmd0 0x4B).wf = false ∧ (Instr.cmd0 0x4A).wf = true := by decide +kernel

theorem test_wf_refuses_wrong_length :
    (Instr.parseResponse 0 8 3).wf = false ∧ ([1, 2, 5].all fun n => (Instr.parseResponse 0 8 n).wf) = true := by decide +kernel

/-! ## Decoding: one word per constructor -/

/-- The word of a format decodes to the instruction, with nothing left over. -/
def decodes (f : Format) (word : List Byte) (i : Instr) : Bool := (decode f word).toOption == some (i, [])

theorem test_decode_cmd0 : decodes .frame [0x40, 0x00, 0x00, 0x00, 0x00, 0x95] (.cmd0 0x4A) = true := by decide +kernel
theorem test_decode_cmd1 : decodes .frame [0x41, 0x00, 0x00, 0x00, 0x00, 0xF9] (.cmd1 0x7C) = true := by decide +kernel
theorem test_decode_cmd8 : decodes .frame [0x48, 0x00, 0x00, 0x01, 0xAA, 0x87] (.cmd8 0x43) = true := by decide +kernel
theorem test_decode_cmd9 : decodes .frame [0x49, 0x00, 0x00, 0x00, 0x00, 0xAF] (.cmd9 0x57) = true := by decide +kernel
theorem test_decode_cmd12 : decodes .frame [0x4C, 0x00, 0x00, 0x00, 0x00, 0x61] (.cmd12 0x30) = true := by decide +kernel
theorem test_decode_cmd13 : decodes .frame [0x4D, 0x00, 0x00, 0x00, 0x00, 0x0D] (.cmd13 0x06) = true := by decide +kernel
theorem test_decode_cmd16 : decodes .frame [0x50, 0x00, 0x00, 0x02, 0x00, 0x15] (.cmd16 0x0A) = true := by decide +kernel
theorem test_decode_cmd17 : decodes .frame [0x51, 0x00, 0x00, 0x08, 0x00, 0xE5] (.cmd17 0x800 0x72) = true := by decide +kernel
theorem test_decode_cmd18 : decodes .frame [0x52, 0x00, 0x00, 0x08, 0x00, 0x51] (.cmd18 0x800 0x28) = true := by decide +kernel
theorem test_decode_cmd24 : decodes .frame [0x58, 0x00, 0x00, 0x08, 0x00, 0xDF] (.cmd24 0x800 0x6F) = true := by decide +kernel
theorem test_decode_cmd25 : decodes .frame [0x59, 0x00, 0x00, 0x08, 0x01, 0xA1] (.cmd25 0x801 0x50) = true := by decide +kernel
theorem test_decode_cmd55 : decodes .frame [0x77, 0x00, 0x00, 0x00, 0x00, 0x65] (.cmd55 0x32) = true := by decide +kernel
theorem test_decode_acmd41 : decodes .frame [0x69, 0x40, 0x00, 0x00, 0x00, 0x77] (.acmd41 0x3B) = true := by decide +kernel
theorem test_decode_cmd58 : decodes .frame [0x7A, 0x00, 0x00, 0x00, 0x00, 0xFD] (.cmd58 0x7E) = true := by decide +kernel
theorem test_decode_cmd59 : decodes .frame [0x7B, 0x00, 0x00, 0x00, 0x01, 0x83] (.cmd59 1 0x41) = true := by decide +kernel

theorem test_decode_responses :
    decodes (.resp .r1) [0x01] (.r1 1) = true ∧ decodes (.resp .r1b) [0x05] (.r1b 5) = true ∧
    decodes (.resp .r2) [0x00, 0x2A] (.r2 0 0x2A) = true ∧
    decodes (.resp .r3) [0x00, 0xC0, 0xFF, 0x80, 0x00] (.r3 0 0xC0FF8000) = true ∧
    decodes (.resp .r7) [0x01, 0x12, 0x34, 0x51, 0xAA] (.r7 1 0x12345 1 0xAA) = true := by decide +kernel

theorem test_decode_tokens :
    decodes .readToken [0xFE] .tokStart = true ∧ decodes .writeToken [0xFE] .tokStart = true ∧
    decodes .writeToken [0xFC] .tokStartMulti = true ∧ decodes .writeToken [0xFD] .tokStop = true ∧
    decodes .dataResp [0xE5] (.dataResponse 7 2) = true ∧ decodes .dataResp [0x0B] (.dataResponse 0 5) = true ∧
    decodes .readToken [0x08] (.dataError 8) = true := by decide +kernel

/-- R157's codes; the operands little-endian (log 5). -/
theorem test_decode_block_device :
    decodes .hostop [0x01, 0x04, 0x03, 0x02, 0x01, 0x01] (.sdService 0x01020304 true) = true ∧
    decodes .hostop [0x02, 1, 0, 0, 0, 2, 0, 0, 0, 0, 4, 0, 0, 0x15, 0, 0, 0, 7, 0, 0, 0, 9, 0, 0, 0] (.read 1 2 0x1500000400 7 9) = true ∧
    decodes .hostop [0x03, 1, 0, 0, 0, 2, 0, 0, 0, 0, 4, 0, 0, 0, 0, 0, 0, 7, 0, 0, 0, 9, 0, 0, 0] (.write 1 2 0x400 7 9) = true ∧
    decodes .hostop [0x04] .status = true ∧ decodes .hostop [0x05] .capacityBlocks = true ∧
    decodes .hostop [0x06] .sdState = true ∧ decodes .hostop [0x07] .sdLastError = true := by decide +kernel

theorem test_decode_log_engine :
    decodes .hostop [0x10, 0x10, 0x27, 0, 0] (.logService 10000) = true ∧
    decodes .hostop [0x11, 0, 1, 0, 0, 0, 0, 0, 0, 0x60, 0, 0, 0] (.log 0x100 96) = true ∧
    decodes .hostop [0x12, 0, 1, 0, 0, 0, 0, 0, 0, 3, 0, 0, 0] (.logGather 0x100 3) = true ∧
    decodes .hostop [0x13, 0xD0, 0x07, 0, 0] (.checkout 2000) = true ∧
    decodes .hostop [0x14, 0x00, 0x0C, 0, 0] (.checkin 3072) = true ∧
    decodes .hostop [0x15] .pause = true ∧ decodes .hostop [0x16] .resume = true ∧
    decodes .hostop [0x17, 0x00, 0xF1, 0x53, 0x65] (.setFlightTimestamp 1700000000) = true ∧
    decodes .hostop [0x18] .flightBlocks = true ∧ decodes .hostop [0x19] .missedCheckouts = true ∧
    decodes .hostop [0x1A] .logState = true ∧ decodes .hostop [0x1B] .logFailReason = true := by decide +kernel

theorem test_decode_command_layer :
    decodes .hostop [0x20, 0, 1, 0, 0, 0, 0, 0, 0, 5, 0, 0, 0] (.crc7 0x100 5) = true ∧
    decodes .hostop [0x21, 0x34, 0x12, 0xAB] (.crc16Update 0x1234 0xAB) = true ∧
    decodes .hostop [0x22, 0, 1, 0, 0, 0, 0, 0, 0, 0, 2, 0, 0] (.crc16 0x100 512) = true ∧
    decodes .hostop [0x23, 0x11, 0, 0, 0, 0, 8, 0, 0] (.buildCommand 17 0x800) = true ∧
    decodes .hostop [0x24, 0, 1, 0, 0, 0, 0, 0, 0, 8, 0, 0, 0, 5] (.parseResponse 0x100 8 5) = true ∧
    decodes .hostop [0x25, 0, 1, 0, 0, 0, 0, 0, 0] (.csdCapacity 0x100) = true := by decide +kernel

theorem test_decode_partition_codec :
    decodes .hostop [0x30, 0, 2, 0, 0, 0, 0, 0, 0] (.mbrIsValid 0x200) = true ∧
    decodes .hostop [0x31, 0, 2, 0, 0, 0, 0, 0, 0, 3, 0, 0, 0] (.mbrGetEntry 0x200 3) = true ∧
    decodes .hostop [0x32, 0xBE, 3, 0, 0, 0, 0, 0, 0] (.mbrEntryIsValid 0x3BE) = true ∧
    decodes .hostop [0x33, 0xBE, 3, 0, 0, 0, 0, 0, 0] (.mbrEntryType 0x3BE) = true ∧
    decodes .hostop [0x34, 0xBE, 3, 0, 0, 0, 0, 0, 0] (.mbrEntryStartLba 0x3BE) = true ∧
    decodes .hostop [0x35, 0xBE, 3, 0, 0, 0, 0, 0, 0] (.mbrEntryLength 0x3BE) = true ∧
    decodes .hostop [0x36, 0, 2, 0, 0, 0, 0, 0, 0] (.mbrInitTable 0x200) = true ∧
    decodes .hostop [0x37, 0, 2, 0, 0, 0, 0, 0, 0, 1, 0, 0, 0, 0x89, 0, 8, 0, 0, 16, 0, 0, 0] (.mbrInitEntry 0x200 1 0x89 2048 16) = true := by
  decide +kernel

theorem test_decode_superblock_codec :
    decodes .hostop [0x38, 0, 2, 0, 0, 0, 0, 0, 0] (.sbIsValid 0x200) = true ∧ decodes .hostop [0x39, 0, 2, 0, 0, 0, 0, 0, 0] (.sbVersion 0x200) = true ∧
    decodes .hostop [0x3A, 0, 2, 0, 0, 0, 0, 0, 0] (.sbContinued 0x200) = true ∧
    decodes .hostop [0x3B, 0, 2, 0, 0, 0, 0, 0, 0] (.sbPartitionLength 0x200) = true ∧
    decodes .hostop [0x3C, 0, 2, 0, 0, 0, 0, 0, 0, 31, 0, 0, 0] (.sbFlightGet 0x200 31) = true ∧
    decodes .hostop [0x3D, 0, 2, 0, 0, 0, 0, 0, 0, 2, 0, 0, 0, 13, 0, 0, 0, 3, 0, 0, 0, 5, 0, 0, 0] (.sbFlightSet 0x200 2 13 3 5) = true ∧
    decodes .hostop [0x3E, 0, 2, 0, 0, 0, 0, 0, 0, 1] (.sbFlightSlotFor 0x200 true) = true ∧
    decodes .hostop [0x3F, 0, 2, 0, 0, 0, 0, 0, 0, 16, 0, 0, 0] (.sbInit 0x200 16) = true ∧
    decodes .hostop [0x40, 5, 0, 0xAB, 2, 0x34, 0x12] (.hdrEncode 5 0x2AB 0x1234) = true ∧
    decodes .hostop [0x41, 0xC5, 0xAA, 0x34, 0x12] (.hdrDecode 0xC5 0xAA 0x34 0x12) = true := by decide +kernel

theorem test_decode_rejects_by_name :
    decode .hostop [0x08] = .error (.unassignedHostCode 0x08) ∧ decode .frame [0x40, 0, 0, 0, 1, 0x95] = .error (.notInCommandSet 0 1) ∧
    decode (.resp .r1) [0xFF] = .error (.notAResponse 0xFF) ∧ decode .readToken [0x10] = .error (.notAToken 0x10) ∧
    decode .dataResp [0x15] = .error (.notAToken 0x15) := ⟨rfl, rfl, rfl, rfl, rfl⟩

/-- A word of each format of the opcode table, numbered as the table numbers it. -/
theorem test_table_words :
    decodeTableWord 48 0x400000000095 = some (.cmd0 0x4A) ∧ decodeTableWord 48 0x770000000001 = some (.cmd55 0) ∧
    decodeTableWord 40 0x00C0FF8000 = some (.r3 0 0xC0FF8000) ∧ decodeTableWord 16 0x0000 = some (.r2 0 0) ∧
    decodeTableWord 8 0xFC = some .tokStartMulti ∧ decodeTableWord 8 0x13 = some (.checkout 0) ∧
    decodeTableWord 8 0x65 = some (.dataResponse 3 2) := by decide +kernel

/-! ## The spec's vectors (95_test_vectors.md) -/

/-- The next state of an outcome meets a test. -/
def nextIs (o : Host.Outcome State Fault Refusal) (p : State → Bool) : Bool :=
  match o with
  | .next t => p t
  | .fault _ => false
  | .refused _ => false

/-- What an instruction returns in a state. -/
def returns (i : Instr) (s : State) (r : Ret) : Bool := nextIs (exec i s) fun t => t.env.ret == r

/-- Reset, with bytes in the caller's memory. -/
def withHost (a : Nat) (b : List Byte) : State := State.reset.poke .host a b

/-- §2.1. -/
theorem test_crc7 : returns (.crc7 0x100 5) (withHost 0x100 [0x51, 0, 0, 6, 0]) (.byte 0x10) = true ∧
    returns (.crc7 0 1) (withHost 0 [0xFF]) (.byte 0x79) = true := by decide +kernel

/-- §2.2. -/
theorem test_crc16 : returns (.crc16 0 9) (withHost 0 [0x31, 0x32, 0x33, 0x34, 0x35, 0x36, 0x37, 0x38, 0x39]) (.half 0x31C3) = true ∧
    returns (.crc16 0 16) (withHost 0 [0x40, 0x0E, 0, 0x32, 0x5B, 0x59, 0, 0, 0x3B, 0x37, 0x7F, 0x80, 0x0A, 0x40, 0, 0xC3])
      (.half 0xBDC8) = true := by decide +kernel
theorem test_crc16_update : returns (.crc16Update 0 0x01) State.reset (.half 0x1021) = true ∧
    returns (.crc16Update 0 0x80) State.reset (.half 0x9188) = true ∧
    returns (.crc16Update 0x58E5 0x00) State.reset (.half (crc16Bytes [0x41, 0x00])) = true := by decide +kernel

/-- §2.1: the index is taken modulo 64. -/
theorem test_build_command : returns (.buildCommand 0x7F 0) State.reset (.bytes [0x7F, 0, 0, 0, 0, 0x33]) = true ∧
    returns (.buildCommand 25 0x80D) State.reset (.bytes [0x59, 0, 0, 8, 0x0D, 0x79]) = true := by decide +kernel

/-- §2.3. -/
theorem test_parse_response : returns (.parseResponse 0 4 5) (withHost 0 [0xFF, 0x01, 0, 0]) (.found 1 false) = true ∧
    returns (.parseResponse 0 0 1) State.reset .notFound = true := by decide +kernel

/-- §2.5. -/
theorem test_csd_capacity :
    returns (.csdCapacity 0) (withHost 0 [0x40, 0x0E, 0, 0x32, 0x5B, 0x59, 0, 0, 0x3B, 0x37, 0x7F, 0x80, 0x0A, 0x40, 0, 0xC3])
      (.word 15523840) = true ∧
    returns (.csdCapacity 0) (withHost 0 [0, 0, 0, 0, 0, 9, 3, 0xC4, 0xC0, 3, 0x80, 0, 0, 0, 0, 0x79]) (.word 1976320) = true ∧
    returns (.csdCapacity 0) (withHost 0 [0x40, 0, 0, 0, 0, 0, 0, 0x3F, 0xFF, 0xFF, 0, 0, 0, 0, 0, 0x5F]) (.word 0xFFFFFFFF) = true := by
  decide +kernel

/-- §2.10: the entry and the signature of P2's table. -/
theorem test_mbr_writers : nextIs (exec (.mbrInitTable 0) (withHost 3 [7])) (fun s =>
    nextIs (exec (.mbrInitEntry 0 0 0x89 2048 16) s) fun t =>
      t.peekList .host 446 16 == [0, 0, 0, 0, 0x89, 0, 0, 0, 0, 8, 0, 0, 0x10, 0, 0, 0] &&
        t.peekList .host 510 2 == [0x55, 0xAA] && t.peek .host 3 == 0) = true := by
  decide +kernel
theorem test_mbr_queries :
    let s := withHost 494 [0, 0, 0, 0, 0x0C, 0, 0, 0, 1, 2, 3, 4, 5, 6, 7, 8]
    returns (.mbrEntryType 494) s (.byte 0x0C) = true ∧ returns (.mbrEntryStartLba 494) s (.word 0x04030201) = true ∧
    returns (.mbrEntryLength 494) s (.word 0x08070605) = true ∧ returns (.mbrEntryIsValid 0) s (.bool false) = true ∧
    returns (.mbrIsValid 0) (withHost 510 [0xAA, 0x55]) (.bool false) = true ∧
    returns (.mbrGetEntry 0 4) s (.code .rejected) = true := by decide +kernel

/-- §2.11: an empty superblock. -/
theorem test_sb_init : nextIs (exec (.sbInit 0 16) (withHost 100 [7])) (fun t =>
    t.peekList .host 0 16 == [0x43, 0x55, 0x49, 0x6E, 0x53, 0x70, 0x61, 0x63, 1, 0, 0, 0, 0x10, 0, 0, 0] && returns (.sbVersion 0) t (.byte 1) &&
      returns (.sbContinued 0) t (.bool false) && returns (.sbPartitionLength 0) t (.word 16) &&
      returns (.sbIsValid 0) t (.bool true)) = true := by decide +kernel
theorem test_sb_flight_set : nextIs (exec (.sbFlightSet 0 1 13 3 0x653F) State.reset) (fun t =>
    t.peekList .host 108 12 == [0x0D, 0, 0, 0, 3, 0, 0, 0, 0x3F, 0x65, 0, 0] &&
      returns (.sbFlightGet 0 1) t (.flight 13 3 0x653F) && returns (.sbFlightSlotFor 0 false) t (.slot 0 0)) = true := by
  decide +kernel

/-- §2.12. -/
theorem test_record_header : returns (.hdrEncode 5 0x2AB 0x1234) State.reset (.bytes [0xC5, 0xAA, 0x34, 0x12]) = true ∧
    returns (.hdrDecode 0xC5 0xAA 0x34 0x12) State.reset (.header 5 0x2AB 0x1234) = true := by decide +kernel

/-- §2.13: the sequential example, its first three calls. -/
theorem test_checkout_sequence : nextIs (exec (.checkout 100) State.reset) (fun s =>
    s.env.ret == .word 0 && s.sh.ip == 0x80000064 && nextIs (exec (.checkin 0) s) fun s =>
      nextIs (exec (.checkout 2000) s) fun t =>
        t.env.ret == .word 2048 && t.sh == ⟨0, 0x810007D0, ⟨100, 0, true⟩, ⟨2000, 1, false⟩⟩) = true := by decide +kernel

/-- §2.13, the interleaved example: the irq checkout arrives between main's step 2 and its step 3. -/
theorem test_checkout_interleaved :
    nextIs (exec (.checkout 100) { State.reset with
        sh.ip := 0x80000000, env.irqs := [[], [], [.checkout 50, .checkin 0]] }) (fun t =>
      t.env.ret == .word 50 && t.env.irqRets == [.word 0, .code .ok] && t.sh.ip == 0x80000096 &&
        t.sh.buf0 == ⟨150, 1, false⟩) = true := by decide +kernel

/-- R436: a record appended, its bytes in LOGBUF. -/
theorem test_log : nextIs (exec (.log 8 4) { withHost 8 [0x81, 0, 2, 0] with sh.ip := 0x80000000 }) (fun t =>
    t.env.ret == .code .ok && t.sh.ip == 0x80000004 && t.sh.buf0 == ⟨4, 0, false⟩ &&
      t.peekList .logbuf 0 4 == [0x81, 0, 2, 0]) = true := by decide +kernel

/-- R437: two segments gathered, the second first in memory (log 15). -/
theorem test_log_gather :
    nextIs (exec (.logGather 16 2) (withHost 0
        ([1, 2, 3, 4, 5, 0, 0, 0, 0, 0, 0, 0, 0, 0, 0, 0] ++ [3, 0, 0, 0, 0, 0, 0, 0, 2, 0, 0, 0] ++ [0, 0, 0, 0, 0, 0, 0, 0, 3, 0, 0, 0])))
      (fun t => t.env.ret == .code .ok && t.peekList .logbuf 0 5 == [4, 5, 1, 2, 3] && t.sh.ip == 0x80000005) = true := by
  decide +kernel

/-! ## Witnesses: a state and operands that meet a statement's hypotheses, clause by clause -/

theorem wit_DecodedWordIsEncoding :
    decode .frame [0x51, 0, 0, 8, 0, 0xE5, 0xFF] = .ok (.cmd17 0x800 0x72, [0xFF]) := rfl

theorem wit_StepRunsDecoded_wire :
    decode .dataResp [0xE5] = .ok (.dataResponse 7 2, []) ∧
    ({ State.reset with env.agenda := [.wire .dataResp [0xE5]] } : State).env.agenda = .wire .dataResp [0xE5] :: [] := ⟨rfl, rfl⟩
theorem wit_StepRunsDecoded_call :
    decode .hostop [0x19] = .ok (.missedCheckouts, []) ∧
    ({ State.reset with env.agenda := [.call .irq [0x19]] } : State).env.agenda = .call .irq [0x19] :: [] ∧
    (Ctx.irq = .irq → isProducer .missedCheckouts = true) := ⟨rfl, rfl, fun _ => rfl⟩
theorem wit_StepRunsDecoded_word : decodeTableWord 48 0x4C0000000061 = some (.cmd12 0x30) := by decide +kernel

/-- The last byte of HOST, with 32 and with 64 address bits; an entry of the table. -/
theorem wit_CommandLayerValues :
    hostReadable State.reset 0xFFFFFFFF (1 : U32).toNat = true ∧ hostReadable State.reset 0x100 (5 : U32).toNat = true ∧
    hostReadable { State.reset with cfg.hostAddrBits := 64 } 0xFFFFFFFFFFFFFFFF (1 : U32).toNat = true ∧
    (0xFF, 0x1EF0) ∈ ([(0x80, 0x9188), (0xFF, 0x1EF0)] : List (Nat × U16)) := by decide

theorem wit_ParseResponseFindsFirst_found :
    let s := withHost 0x100 [0xFF, 0x7F, 0xFF]
    hostReadable s 0x100 (3 : U32).toNat = true ∧ 1 < (3 : U32).toNat ∧ (s.peek .host (0x100 + 1)).getLsbD 7 = false ∧
      (∀ j, j < 1 → (s.peek .host (0x100 + j)).getLsbD 7 = true) := by decide +kernel
theorem wit_ParseResponseFindsFirst_none :
    let s := withHost 0x100 [0xFF, 0x80]
    hostReadable s 0x100 (2 : U32).toNat = true ∧
      (∀ j, j < (2 : U32).toNat → (s.peek .host (0x100 + j)).getLsbD 7 = true) := by decide +kernel

theorem wit_CsdCapacityValue :
    ((1 : U32) ≠ 0 ∧ (0x7FFFFF : U32).toNat + (1 : U32).toNat ≤ (capCapacity false 0xFFFFFFFF).toNat) ∧
    [0x00#8, 0x40#8, 0x80#8, 0xC0#8].all (fun b => hostReadable (withHost 0 [b]) 0 16) = true ∧
    ((withHost 0 [0x3F]).peek .host 0).extractLsb' 6 2 = 0#2 ∧ ((withHost 0 [0x40]).peek .host 0).extractLsb' 6 2 = 1#2 ∧
    ((withHost 0 [0x80]).peek .host 0).extractLsb' 7 1 = 1#1 := by decide +kernel

/-- The highest block and the highest entry of HOST; the last entry, and the first index refused. -/
theorem wit_BlockQueries :
    hostReadable State.reset 0xFFFFFE00 512 = true ∧ hostReadable State.reset 0xFFFFFFF0 16 = true ∧
    (3 : U32).toNat ≤ 3 ∧ 3 < (4 : U32).toNat := by decide
theorem wit_PartitionTableWriters :
    (withHost 0x1FF [7]).mem.host.wf = true ∧ hostReadable (withHost 0x1FF [7]) 0x200 512 = true ∧
    (3 : U32).toNat ≤ 3 ∧ 3 < (4 : U32).toNat := by decide +kernel
theorem wit_FlightRecords :
    State.reset.mem.host.wf = true ∧ hostReadable State.reset 0xFFFFFE00 512 = true ∧ (31 : U32).toNat ≤ 31 ∧
    31 < (32 : U32).toNat := by decide
/-- The lowest free slot is 0, or 31, or there is none. -/
theorem wit_FlightRecords_slot :
    let used := fun n => withHost 96 ((List.range n).flatMap fun _ => [1, 0, 0, 0, 0, 0, 0, 0, 0, 0, 0, 0])
    (hostReadable (used 0) 0 512 = true ∧ field32 (used 0) .host (96 + 12 * 0) = 0) ∧
    (hostReadable (used 31) 0 512 = true ∧ field32 (used 31) .host (96 + 12 * 31) = 0 ∧
      (∀ j, j < 31 → field32 (used 31) .host (96 + 12 * j) ≠ 0)) ∧
    (hostReadable (used 32) 0 512 = true ∧ (∀ j, j < 32 → field32 (used 32) .host (96 + 12 * j) ≠ 0)) := by decide +kernel
theorem wit_SuperblockInit :
    (withHost 0x1FF [7]).mem.host.wf = true ∧ hostReadable (withHost 0x1FF [7]) 0x200 512 = true := by decide +kernel

/-! ### Reservation -/

/-- Reset with an insertion point and the counts of the two buffers. -/
def logging (ip c0 c1 : U32) : State := { State.reset with sh := ⟨0, ip, ⟨c0, 0, false⟩, ⟨c1, 0, false⟩⟩ }

theorem wit_CheckoutRefused_length : State.reset.cfg.logBufCap < (2049 : U32).toNat ∧ ¬State.reset.cfg.logBufCap < (2048 : U32).toNat := by
  decide
theorem wit_CheckoutRefused_space :
    (let s := logging 0x80000001 1 5
     (2048 : U32) ≠ 0 ∧ (2048 : U32).toNat ≤ s.cfg.logBufCap ∧ quiet s = true ∧ ipWellFormed s.sh.ip = true ∧
      (ipValid s.sh.ip = true → s.cfg.logBufCap < ipOff s.sh.ip + (2048 : U32).toNat) ∧
      (s.sh.buf (1 - ipIdx s.sh.ip)).count ≠ 0 ∧ (ipValid s.sh.ip = false → (s.sh.buf (ipIdx s.sh.ip)).count ≠ 0)) ∧
    (let s := logging 0x01000000 5 6
     quiet s = true ∧ ipWellFormed s.sh.ip = true ∧ ipValid s.sh.ip = false ∧ (s.sh.buf (1 - ipIdx s.sh.ip)).count ≠ 0 ∧
      (s.sh.buf (ipIdx s.sh.ip)).count ≠ 0) := by decide +kernel
/-- The grant that fills the buffer exactly. -/
theorem wit_CheckoutGrants_room :
    let s := logging 0x80000064 100 0
    (1948 : U32) ≠ 0 ∧ quiet s = true ∧ ipWellFormed s.sh.ip = true ∧ ipValid s.sh.ip = true ∧
      ipOff s.sh.ip + (1948 : U32).toNat ≤ s.cfg.logBufCap := by decide +kernel
/-- From a full buffer, from the null word of reset, and back to the buffer of a null word. -/
theorem wit_CheckoutGrants_switch :
    [(logging 0x80000064 100 0, (1949 : U32), 1), (State.reset, 2048, 0), (logging 0x00000064 0 7, 5, 0)].all (fun (s, len, j) =>
      decide (len ≠ 0 ∧ len.toNat ≤ s.cfg.logBufCap ∧ quiet s = true ∧ ipWellFormed s.sh.ip = true ∧ (s.sh.buf j).count = 0 ∧
        (if ipValid s.sh.ip then s.cfg.logBufCap < ipOff s.sh.ip + len.toNat ∧ j = 1 - ipIdx s.sh.ip
         else j = 1 - ipIdx s.sh.ip ∨ (j = ipIdx s.sh.ip ∧ (s.sh.buf (1 - ipIdx s.sh.ip)).count ≠ 0)))) = true := by
  decide +kernel
/-- Two irq calls preempt main, whose grant does not start its buffer; one call preempts one that does. -/
theorem wit_ConcurrentGrants :
    let s := fun (off : U32) (batches : List (List U32)) => ({ logging (mkIp true 0 off.toNat) off 0 with
      env.irqs := batches.map (·.map Instr.checkout) } : State)
    let single := s 100 [[1], [], [], [], [], [], [], [48]]
    [s 100 [[], [], [], [2000, 1]], s 0 [[], [], [50]], single].all (fun s =>
      s.cfg.wf && ipInRange s && ipAtCount s && s.env.ctx == .main && s.env.irqRets.isEmpty) = true ∧
    nextIs (exec (.checkout 100) (s 100 [[], [], [], [2000, 1]])) (fun t =>
      t.env.ret == .word 100 && t.env.irqRets == [.word 2048, .word 4048]) = true ∧
    nextIs (exec (.checkout 100) (s 0 [[], [], [50]])) (fun t =>
      t.env.ret == .word 50 && t.env.irqRets == [.word 0]) = true ∧
    oneGrantPerStep single = true ∧ nextIs (exec (.checkout 2000) single) (fun t =>
      t.env.ret == .word 2048 && t.env.irqRets == [.word 100, .word 4048]) = true := by decide +kernel
theorem wit_GrantsAreDisjoint :
    let s : State := { State.reset with env.ctx := .irq }
    s.cfg.wf = true ∧ ipInRange s = true ∧ ipAtCount s = true ∧ s.env.ctx = .irq ∧ s.env.irqRets = [] ∧
    ((irqCalls ([100, 2049, 2000].map Instr.checkout) s).toOption.any fun t =>
      t.env.irqRets == [.word 0, .code .rejected, .word 2048]) = true := by decide +kernel
theorem wit_CheckinReleases :
    let s : State := { State.reset with sh.buf1 := ⟨5, 1, true⟩ }
    quiet s = true ∧ 2 * s.cfg.logBufCap ≤ (4096 : U32).toNat ∧
    ((2047 : U32).toNat < 2 * s.cfg.logBufCap ∧ (s.sh.buf ((2047 : U32).toNat / s.cfg.logBufCap)).checkouts = 0) ∧
    ((4095 : U32).toNat < 2 * s.cfg.logBufCap ∧ (s.sh.buf ((4095 : U32).toNat / s.cfg.logBufCap)).checkouts ≠ 0) := by
  decide +kernel
theorem wit_LogAppends :
    let s := logging 0x81000000 7 0
    s.cfg.wf = true ∧ (2048 : U32) ≠ 0 ∧ quiet s = true ∧ ipWellFormed s.sh.ip = true ∧ ipValid s.sh.ip = true ∧
      ipOff s.sh.ip + (2048 : U32).toNat ≤ s.cfg.logBufCap ∧ hostReadable s 0xFFFFF800 (2048 : U32).toNat = true ∧
      (s.sh.buf (ipIdx s.sh.ip)).checkouts ≠ 0xFFFFFFFF ∧ s.cfg.logBufCap < (2049 : U32).toNat := by decide +kernel
/-- `log` built on `checkout`: from reset (a null insertion point), from a full buffer, and refused for want of space. -/
theorem wit_LogAppends_switch :
    [(State.reset, (96 : U32), Ret.word 0), (logging 0x80000064 100 0, 2000, .word 2048), (logging 0x80000001 1 5, 2048, .code .outOfSpace)].all
      (fun (s, len, r) =>
        decide (s.cfg.wf = true ∧ s.env.ctx = .main ∧ quiet s = true ∧ hostReadable s 8 len.toNat = true) &&
          nextIs (exec (.checkout len) s) fun s1 => s1.env.ret == r &&
            (match r with
            | .word h => (s1.sh.buf (h.toNat / s.cfg.logBufCap)).checkouts != 0
            | _ => true)) = true := by decide +kernel
/-- Two segments that fill the buffer, one of them empty; then the same array with too long a segment, and with none. -/
theorem wit_LogGatherAppends :
    let arr := fun (n : U32) => (logging 0x80000000 0 0).poke .host 16 (le64Bytes 8 ++ le32Bytes n ++ le64Bytes 0 ++ le32Bytes 0)
    let segs := fun (n : U32) => [((8 : HostAddr), n), (0, 0)]
    (([2048, 2049, 0] : List U32).all fun n => decide ((2 : U32) ≠ 0 ∧ hostReadable (arr n) 16 (12 * (2 : U32).toNat) = true ∧
      (segs n).length = (2 : U32).toNat ∧
      (∀ k, k < (2 : U32).toNat → (segs n)[k]? = some
        (field32 (arr n) .host (16 + 12 * k + 4) ++ field32 (arr n) .host (16 + 12 * k), field32 (arr n) .host (16 + 12 * k + 8))))) = true ∧
    ((segs 0).map fun x => x.2.toNat).sum = 0 ∧ (arr 2049).cfg.logBufCap < ((segs 2049).map fun x => x.2.toNat).sum ∧
    (let s := arr 2048
     ((segs 2048).map fun x => x.2.toNat).sum = (2048 : U32).toNat ∧ ((segs 2048).all fun x => hostReadable s x.1 x.2.toNat) = true ∧
      s.cfg.wf = true ∧ quiet s = true ∧ ipWellFormed s.sh.ip = true ∧ ipValid s.sh.ip = true ∧
      ipOff s.sh.ip + (2048 : U32).toNat ≤ s.cfg.logBufCap ∧ (s.sh.buf (ipIdx s.sh.ip)).checkouts ≠ 0xFFFFFFFF ∧
      nextIs (exec (.checkout 2048) s) (fun s1 => s1.env.ret == .word 0 && s1.sh.buf0.checkouts != 0) = true) := by decide +kernel
theorem wit_CallsTurnedAway :
    ([0x00#8, 0x08#8, 0x1C#8, 0x26#8, 0x42#8, 0xFF#8].all fun c => decide (c.toNat ∉ assignedHostCodes)) = true ∧
    decode .hostop [0x15] = .ok (.pause, []) ∧ isProducer .pause = false := ⟨by decide, rfl, rfl⟩

/-! ### The SD engine -/

/-- The engine ready on a card of the given capacity. -/
def ready (capacity : U32) : State := { State.reset with sd.state := .ready, sd.capacity := capacity, env.cardDetect := true }

theorem wit_StateQueries :
    (SdState.unusable, (6 : Byte), (3 : Byte)) ∈ ([(.absent, 0, 0), (.init, 1, 1), (.ready, 2, 2), (.read, 3, 2), (.write, 4, 2),
      (.failRetries, 5, 4), (.unusable, 6, 3), (.failed, 7, 4)] : List (SdState × Byte × Byte)) ∧
    ({ State.reset with sd.state := .unusable } : State).sd.state = .unusable ∧ State.reset.lg.state = .acqPt ∧
    ({ State.reset with lg.state := .failed } : State).lg.state = .failed ∧
    State.reset.sd.lastErr = .ok ∧ ({ State.reset with lg.failReason := .deviceFailed } : State).lg.failReason = .deviceFailed ∧
    State.reset.lg.flightValid = false ∧ ({ State.reset with lg.flightValid := true } : State).lg.flightValid = true ∧
    quiet State.reset = true := by decide
/-- The last block of the card is admitted; one block more, none, and a sum above 2^32 are not (§2.8). -/
theorem wit_OperationAdmission :
    ((ready 100).sd.state = .ready ∧ (1 : U32) ≠ 0 ∧ (99 : U32).toNat + (1 : U32).toNat ≤ (ready 100).sd.capacity.toNat) ∧
    (ready 100).sd.capacity.toNat < (99 : U32).toNat + (2 : U32).toNat ∧
    (ready 0xFFFFFFFF).sd.capacity.toNat < (0xFFFFFFFF : U32).toNat + (2 : U32).toNat ∧ State.reset.sd.state ≠ .ready := by decide
theorem wit_SdServiceIdle :
    (let s : State := { State.reset with sd.xferPending := true }
     s.env.cbQueue = none ∧ s.sd.xferPending = true ∧ s.env.done = false) ∧
    ((ready 9).env.cbQueue = none ∧ (ready 9).sd.xferPending = false ∧ present true (ready 9) = true ∧
      (ready 9).sd.state ∈ [SdState.ready, .failRetries, .unusable, .failed]) ∧
    (State.reset.env.cbQueue = none ∧ State.reset.sd.xferPending = false ∧ present false State.reset = false ∧
      State.reset.sd.state = .absent) := by decide
theorem wit_InsertionAndRemoval_insertion :
    (State.reset.env.cbQueue = none ∧ State.reset.sd.xferPending = false ∧ present true State.reset = true ∧
      State.reset.sd.state = .absent ∧ State.reset.env.submitOk = true) ∧
    (let s : State := { State.reset with env.submitOk := false }
     s.env.cbQueue = none ∧ s.sd.xferPending = false ∧ present true s = true ∧ s.sd.state = .absent ∧ s.env.submitOk = false) := by
  decide
/-- Ready with no operation; reading for a client. -/
theorem wit_InsertionAndRemoval_removal :
    ((ready 9).env.cbQueue = none ∧ (ready 9).sd.xferPending = false ∧ present false (ready 9) = false ∧
      (ready 9).sd.state ≠ .absent ∧ (ready 9).op.valid = false) ∧
    (let s : State := { ready 9 with sd.state := .read, sd.opPhase := .rdToken, op.valid := true }
     s.env.cbQueue = none ∧ s.sd.xferPending = false ∧ present false s = false ∧ s.sd.state ≠ .absent ∧ s.op.valid = true ∧
      quietClient s = true) := by decide

/-- An operation in a phase, for a client whose callback makes no call. -/
def operating (st : SdState) (p : OpPhase) (count idx : U32) : State :=
  { ready 0x1000 with
    sd.state := st, sd.opPhase := p, sd.session := true, op.valid := true, op.count := count, op.idx := idx, op.len := 512
    op.buf := ⟨.host, 0x400⟩ }

/-- Every clause of R503's `raise`, and `finish`. -/
theorem wit_RaiseAndFinish :
    ({ State.reset with sd.state := .init } : State).sd.state = .init ∧
    ((operating .write .wrStatus 3 2).sd.state ≠ .init ∧
      (operating .write .wrStatus 3 2).sd.opPhase ∈ [OpPhase.rdCmd, .wrCmd, .wrFinalBusy, .wrStopPostBusy, .wrStatus]) ∧
    ((operating .write .wrDresp 1 0).sd.opPhase ∈ [OpPhase.rdToken, .rdData, .wrBusy, .wrDresp, .wrStopBusy] ∧
      (operating .write .wrDresp 1 0).op.count = 1) ∧
    (let s := operating .read .rdData 4 2
     s.sd.opPhase = .rdData ∧ s.op.idx ≠ s.op.count - 1 ∧ 1 < s.op.count) ∧
    (let s := operating .read .rdData 4 3
     s.sd.opPhase = .rdData ∧ 1 < s.op.count ∧ s.op.idx = s.op.count - 1) ∧
    (let s := operating .write .wrBusy 4 1
     s.sd.opPhase ∈ [OpPhase.wrBusy, .wrDresp, .wrStopBusy] ∧ s.op.count ≠ 1) ∧
    quietClient (operating .write .wrStatus 3 2) = true := by decide

/-- 512 zeros and a CRC: 0000 is right (§2.2), 0001 is wrong. -/
theorem wit_SingleBlockReadEnds :
    [0x00#8, 0x01#8].all (fun last =>
      let s : State := { operating .read .rdData 1 0 with
        sd.xferPending := true, sd.xferRole := .payload, env.done := true
        env.inBytes := List.replicate 513 0 ++ [last] }
      decide (s.env.cbQueue = none ∧ present true s = true ∧ s.mem.host.wf = true ∧ s.sd.xferPending = true ∧ s.env.done = true ∧
        s.sd.xferRole = .payload ∧ s.env.inBytes.length = 514 ∧ atPhase .read .rdData s = true ∧ s.sd.rxRetain = [] ∧
        s.op.len = 512 ∧ s.op.byte = 0 ∧ s.op.crc = 0 ∧ s.op.idx = 0 ∧ s.op.count = 1 ∧ s.op.err = .ok ∧ s.op.done = 0 ∧
        s.op.buf.space = .host ∧ hostReadable s s.op.buf.addr 512 = true ∧ quietClient s = true)) = true := by decide +kernel

/-- A block received whole: 509 zeros were taken before, the rest are three zeros and a CRC, right (0000, §2.2) or wrong. -/
def receivedBlock (count idx : U32) (last : Byte) : State :=
  { operating .read .rdData count idx with
    sd.xferPending := true, sd.xferRole := .payload, op.byte := 509, env.done := true
    env.inBytes := List.replicate 4 0 ++ [last] }

/-- The next block, the final one of many, a single one; right and wrong. -/
theorem wit_BlockReceived :
    ([(3, 0), (3, 2), (1, 0)] : List (U32 × U32)).all (fun x => [0x00#8, 0x01#8].all fun last =>
      let s := receivedBlock x.1 x.2 last
      decide (s.env.cbQueue = none ∧ s.env.cardDetect = true ∧ s.sd.xferPending = true ∧ s.env.done = true ∧
        s.sd.xferRole = .payload ∧ atPhase .read .rdData s = true ∧ s.sd.rxRetain = [] ∧ s.op.len = 512 ∧
        s.op.byte.toNat + s.env.inBytes.length = 514 ∧ quietClient s = true ∧
        inSpace s.cfg s.op.buf.space (s.op.buf.addr.toNat + (s.op.idx * 512).toNat + s.op.byte.toNat) (512 - s.op.byte.toNat) = true ∧
        (s.env.inBytes.foldl (fun c b => crc16UpdateByte c b) s.op.crc = 0 ↔ last = 0))) = true ∧
    ((0 : U32) + 1 < 3 ∧ ¬(2 : U32) + 1 < 3 ∧ ¬(0 : U32) + 1 < 1 ∧ (2 : U32) = 3 - 1 ∧ (0 : U32) ≠ 3 - 1) := by decide +kernel

/-- §2.5's version-1 CSD, its CRC right (BDC8) and wrong, and one of an unknown structure, not checked. -/
theorem wit_CsdReceived :
    let s := fun (useCrc : Bool) (bytes : List Byte) => ({ ready 0 with
      cfg.useCrc := useCrc, sd.state := .init, sd.initStep := .csd, sd.opPhase := .rdData, sd.xferPending := true
      sd.xferRole := .payload, op.len := 16, env.done := true, env.inBytes := bytes } : State)
    let csd : List Byte := [0x40, 0x0E, 0, 0x32, 0x5B, 0x59, 0, 0, 0x3B, 0x37, 0x7F, 0x80, 0x0A, 0x40, 0, 0xC3]
    let unknown : List Byte := 0x80 :: List.replicate 15 0
    [s true (csd ++ [0xBD, 0xC8]), s true (csd ++ [0xBD, 0xC9]), s false (unknown ++ [1, 2])].all (fun s =>
      decide (s.env.cbQueue = none ∧ s.env.cardDetect = true ∧ s.sd.xferPending = true ∧ s.env.done = true ∧
        s.sd.xferRole = .payload ∧ atInit .csd s = true ∧ s.sd.opPhase = .rdData ∧ s.sd.rxRetain = [] ∧ s.op.len = 16 ∧
        s.op.byte.toNat ≤ 16 ∧ s.op.byte.toNat + s.env.inBytes.length = 18)) = true ∧
    crc16Bytes (csd ++ [0xBD, 0xC8]) = 0 ∧ crc16Bytes (csd ++ [0xBD, 0xC9]) ≠ 0 ∧ csdCapacityOf csd = some 15523840 ∧
    csdCapacityOf unknown = none := by decide +kernel

/-- Every phase that searches, with what it searches for. -/
def searches : List (Sought × State) :=
  [(.readyByte, operating .write .wrBusy 4 1), (.readyByte, operating .write .wrFinalBusy 1 0),
    (.readyByte, operating .write .wrStopBusy 4 3), (.readyByte, operating .write .wrStopPostBusy 4 3),
    (.stopResponse, operating .read .rdStop 4 3), (.readToken, operating .read .rdToken 4 1),
    (.readToken, { ready 0 with sd.state := .init, sd.initStep := .csd, sd.opPhase := .rdToken }),
    (.dataResponse, operating .write .wrDresp 4 1)]

/-- A byte that ends the search, after one that does not and, in the stop, the byte to skip. -/
theorem wit_SearchesEnd :
    searches.all (fun (x, s) =>
      let b : Byte := match x with
        | .readyByte => 0xFF
        | .readToken => 0xFE
        | .dataResponse => 0xE5
        | .stopResponse => 0x00
      let skipped : List Byte := if x = .stopResponse then [0x7F] else []
      let t : State := { s with sd.rxRetain := skipped ++ [0xF0] ++ b :: [1, 2], sd.rxSkip := x == .stopResponse }
      idleEngine t && seeks x t && x.found b && !x.found 0xF0 && skipped.length == t.sd.rxSkip.toNat) = true := by decide +kernel
/-- Nothing decides the search, at the last time within its window and at the first past it. -/
theorem wit_SearchesTimeOut :
    searches.all (fun (x, s) => [0, 1].all fun late =>
      let t : State := { s with sd.rxRetain := [0xF0], env.now := x.window s.cfg + late }
      idleEngine t && seeks x t && (t.sd.rxRetain.drop t.sd.rxSkip.toNat).all (fun y => !x.found y) &&
        decide (t.env.now - t.sd.tAnchor ≤ x.window t.cfg ↔ late = 0)) = true := by decide +kernel

/-! ### Words on the wire -/

/-- Initialisation at a step. -/
def starting (st : InitStep) : State := { ready 0 with sd.state := .init, sd.initStep := st, sd.session := true }

/-- Every command of the set with a state that executes it, its frame as §2.1 gives it. -/
def commandStates : List (Instr × State) :=
  [(.cmd0 0x4A, starting .cmd0), (.cmd1 0x7C, starting .cmd1), (.cmd8 0x43, starting .cmd8), (.cmd9 0x57, starting .cmd9),
    (.cmd12 0x30, operating .read .rdAbort 4 1), (.cmd12 0x30, operating .write .wrAbort 4 1),
    (.cmd13 0x06, operating .write .wrStatus 4 3), (.cmd16 0x0A, starting .cmd16),
    (.cmd17 0 0x2A, operating .read .rdCmd 1 0), (.cmd18 0 0x70, operating .read .rdCmd 4 0),
    (.cmd24 0 0x37, operating .write .wrCmd 1 0), (.cmd25 0 0x01, operating .write .wrCmd 4 0),
    (.cmd55 0x32, starting .cmd55), (.acmd41 0x3B, starting .acmd41), (.cmd58 0x7E, starting .cmd58),
    (.cmd59 1 0x41, starting .cmd59)]

/-- The states at a place of the command's execution. -/
def atPlace (ph : CmdPh) (s : State) : State := { s with sd.cmdPh := ph }

theorem wit_CommandStarts :
    commandStates.all (fun (i, s) => executing i .idle (atPlace .idle s) && (commandOf i).isSome) = true := by decide +kernel
theorem wit_CommandIsSent_opening :
    commandStates.all (fun (i, s) => executing i .opening (atPlace .opening s) && s.env.openOk) = true ∧
    (let s : State := { starting .cmd8 with sd.cmdPh := .opening, env.openOk := false }
     executing (.cmd8 0x43) .opening s = true ∧ s.env.openOk = false) := by decide +kernel
/-- Busy: the ready byte retained; the window just past; the window just not past. -/
theorem wit_CommandIsSent_busy :
    let at_ := fun (retain : List Byte) (now : U32) => ({ starting .cmd8 with
      sd.cmdPh := .busy, sd.rxRetain := retain, env.now := now } : State)
    [at_ [0xFF, 1] 0, at_ [] 251, at_ [] 250].all (fun s => executing (.cmd8 0x43) .busy s && !s.sd.rxSkip) = true ∧
    (at_ [0xFF, 1] 0).sd.rxRetain = 0xFF :: [1] ∧
    (at_ [] 251).cfg.busyTimeoutMs < (at_ [] 251).env.now - (at_ [] 251).sd.tAnchor ∧
    (at_ [] 250).env.now - (at_ [] 250).sd.tAnchor ≤ (at_ [] 250).cfg.busyTimeoutMs ∧ (at_ [] 250).env.submitOk = true := by
  decide +kernel
theorem wit_CommandIsSent_marshal :
    commandStates.all (fun (i, s) => (commandOf i).any fun (index, argument, _) =>
      let s : State := { s with sd.cmdPh := .marshal, sd.cmdIdx := index, sd.cmdArg := argument }
      executing i .marshal s && s.sd.cmdIdx == index && s.sd.cmdArg == argument) = true := by decide +kernel
theorem wit_CommandIsSent_send :
    commandStates.all (fun (i, s) => (commandOf i).any fun (index, argument, _) =>
      let s : State := { s with sd.cmdPh := .send, sd.cmdIdx := index, sd.cmdBuf := frameVector index argument }
      executing i .send s && s.sd.cmdBuf.toList == encode i && s.sd.cmdIdx == index) = true ∧
    (let s : State := { starting .cmd0 with sd.cmdPh := .send, sd.cmdBuf := frameVector 0 0, env.submitOk := false }
     executing (.cmd0 0x4A) .send s = true ∧ s.sd.cmdBuf.toList = encode (.cmd0 0x4A) ∧ s.env.submitOk = false) := by
  decide +kernel
/-- Nothing retained, the three bytes of program P3, and the most there can be. -/
theorem wit_StopCommandOverlaps :
    [0, 3, 7].all (fun n =>
      let s : State := { operating .read .rdData 4 3 with op.byte := 0, sd.rxRetain := List.replicate n 0x55 }
      decide (frameCrcOk (.cmd12 0x30) = true ∧ engineFree s = true ∧ s.env.cbQueue = none ∧ atPhase .read .rdData s = true ∧
        1 < s.op.count ∧ s.op.idx = s.op.count - 1 ∧ s.op.len = 512 ∧ s.op.byte = 0 ∧ s.sd.rxRetain.length ≤ 7 ∧
        inSpace s.cfg s.op.buf.space (s.op.buf.addr.toNat + (s.op.idx * 512).toNat) s.sd.rxRetain.length = true)) = true := by
  decide +kernel
theorem wit_InitCommandsEvaluated_fails :
    let ended := fun (o : CmdOut) => ({ starting .cmd55 with sd.cmdPh := .done, sd.cmdOut := o } : State)
    (executing (.cmd55 0x32) .done (ended .timeout) = true ∧ (ended .timeout).sd.state = .init ∧
      (ended .timeout).sd.cmdOut = .timeout) ∧
    (executing (.cmd55 0x32) .done (ended .busyTimeout) = true ∧ (ended .busyTimeout).sd.cmdOut = .busyTimeout) := by
  decide +kernel
/-- The response is there; it is not. -/
theorem wit_InitCommandsEvaluated :
    commandStates.all (fun (i, s) => answered i { atPlace .done s with sd.respGot := 5 }) = true ∧
    (executing (.cmd8 0x43) .done (atPlace .done (starting .cmd8)) = true ∧ (starting .cmd8).sd.state = .init ∧
      (starting .cmd8).sd.cmdOut = .ok ∧ (starting .cmd8).sd.respGot < responseLength (commandResponse (.cmd8 0x43))) := by
  decide +kernel
/-- A read's and a write's command, CMD13 and CMD12, with each outcome. -/
theorem wit_OperationCommandsEvaluated :
    let ended := fun (s : State) (o : CmdOut) (r0 r1 : Byte) => ({ s with
      sd.cmdPh := .done, sd.cmdOut := o, sd.resp := #v[r0, r1, 0, 0, 0], sd.respGot := 2 } : State)
    [(Instr.cmd17 0 0x2A, operating .read .rdCmd 1 0), (.cmd18 0 0x70, operating .read .rdCmd 4 0),
      (.cmd24 0 0x37, operating .write .wrCmd 1 0), (.cmd25 0 0x01, operating .write .wrCmd 4 0),
      (.cmd13 0x06, operating .write .wrStatus 4 3), (.cmd12 0x30, operating .read .rdAbort 4 1)].all (fun (i, s) =>
      [ended s .timeout 0 0, ended s .busyTimeout 0 0, ended s .ok 0x20 0, ended s .ok 0 0, ended s .ok 0 1].all fun s =>
        executing i .done s && quietClient s && (s.sd.cmdOut != .ok || answered i s)) = true ∧
    (operating .write .wrStatus 4 3).sd.respGot < 2 ∧
    respByte (ended State.reset .ok 0x20 0) 0 ≠ 0 ∧ respByte (ended State.reset .ok 0 1) 1 ≠ 0 := by decide +kernel

/-- A search transaction in progress. -/
def awaiting (s : State) : State := { s with sd.xferPending := true, sd.xferRole := .search, sd.xferInLen := 8 }

theorem wit_ResponsesAreReceived :
    [(Instr.r1 0x20, starting .cmd0, RType.r1), (.r1b 0, operating .read .rdAbort 4 1, .r1b),
      (.r2 0 0x80, operating .write .wrStatus 4 3, .r2), (.r3 0 0xC0FF8000, starting .cmd58, .r3),
      (.r7 1 0 1 0xAA, starting .cmd8, .r7)].all (fun (i, s, type) =>
      let s : State := { awaiting s with sd.cmdPh := .resp, sd.cmdRtype := type }
      decide (formatOf i = .resp type ∧ inCommand s = true ∧ s.sd.cmdPh = .resp ∧ s.sd.respGot = 0 ∧ s.sd.cmdRtype = type ∧
        searching s = true ∧ responseLength type ≤ s.sd.xferInLen ∧ s.env.cbQueue = none)) = true := by decide +kernel
theorem wit_ReadTokens :
    let s := fun count => awaiting (operating .read .rdToken count 0)
    let csd : State := { awaiting (starting .csd) with sd.opPhase := .rdToken }
    ([s 1, s 4, csd].all fun s => decide (searching s = true ∧ 1 ≤ s.sd.xferInLen ∧ s.env.cbQueue = none ∧ s.sd.cmdPh = .idle)) = true ∧
    (atPhase .read .rdToken (s 4) = true ∧ (s 4).op.count ≠ 1) ∧
    (atPhase .read .rdToken (s 1) = true ∧ (s 1).op.count = 1 ∧ quietClient (s 1) = true) ∧
    (atInit .csd csd = true ∧ csd.sd.opPhase = .rdToken) := by decide +kernel
/-- From the caller's buffer, from the last block of a log buffer, and from SB_IMG with a flight; then past the count, and with
none. -/
theorem wit_WriteTokens :
    let logbuf := fun (count : U32) => ({ operating .write .wrSend 2 1 with
      op.buf := ⟨.logbuf, 2048⟩, sh.buf1 := ⟨count, 0, true⟩ } : State)
    let image := fun (valid : Bool) => ({ operating .write .wrSend 1 0 with op.buf := ⟨.sbimg, 0⟩, lg.flightValid := valid } : State)
    ([operating .write .wrSend 1 0, operating .write .wrSend 4 3, logbuf 1024, image true].all fun s =>
      decide (engineFree s = true ∧ s.env.cbQueue = none ∧ atPhase .write .wrSend s = true ∧ sourceMeaningful s = true ∧
        inSpace s.cfg s.op.buf.space (s.op.buf.addr.toNat + (s.op.idx * 512).toNat) 512 = true)) = true ∧
    ([logbuf 512, image false].all fun s => decide (engineFree s = true ∧ s.env.cbQueue = none ∧
      atPhase .write .wrSend s = true ∧ sourceMeaningful s = false)) = true ∧
    (let s := operating .write .wrStopToken 4 3
     engineFree s = true ∧ s.env.cbQueue = none ∧ atPhase .write .wrStopToken s = true) := by decide +kernel
/-- A single-block write, the last block of a multi-block one, and one before it; each status. -/
theorem wit_DataResponses :
    ([(1, 0), (4, 3), (4, 1)].all fun (x : U32 × U32) =>
      let s := awaiting (operating .write .wrDresp x.1 x.2)
      decide (searching s = true ∧ 1 ≤ s.sd.xferInLen ∧ s.env.cbQueue = none ∧ s.sd.cmdPh = .idle ∧
        atPhase .write .wrDresp s = true ∧ quietClient s = true)) = true ∧
    (0b101 : BitVec 3) ≠ 0b010 := by decide +kernel

/-! ### The log engine -/

/-- The log engine in a state, on a ready card. -/
def engine (st : LogState) : State :=
  { ready 0x1000 with lg.state := st, lg.partStart := 2048, lg.partLen := 16, lg.flightValid := st == .active || st == .paused }

theorem wit_PauseResumeTimestamp :
    ([LogState.active, .paused, .acqPt].all fun st => flightHeld (engine st)) = true ∧
    (engine .active).lg.state = .active ∧ (engine .paused).lg.state = .paused ∧ (engine .acqPt).lg.state ≠ .active ∧
    (engine .active).lg.state ≠ .paused ∧ (engine .paused).lg.flTs = 0 ∧
    ({ engine .active with lg.flTs := 5 } : State).lg.flTs ≠ 0 := by decide
theorem wit_LogServiceAcquires :
    logWaits (engine .ptPending) = true ∧
    (({ engine .acqSb with sd.state := .failed } : State).sd.state.terminal = true) ∧
    (let s : State := { engine .paused with sd.state := .unusable }
     s.sd.state.terminal = true ∧ s.lg.state ∈ [LogState.active, .paused] ∧ s.lg.wif = .none) ∧
    ((engine .acqPt).sd.state = .ready ∧ (engine .acqPt).lg.state = .acqPt ∧ (0 : U32).toNat + 1 ≤ (engine .acqPt).sd.capacity.toNat) ∧
    (let s : State := { engine .acqSb with sd.capacity := 2048 }
     s.sd.state = .ready ∧ s.lg.state = .acqSb ∧ s.sd.capacity.toNat ≤ s.lg.partStart.toNat) ∧
    (let s : State := { engine .acqSb with sd.capacity := 2049 }
     s.lg.partStart.toNat + 1 ≤ s.sd.capacity.toNat) := by decide

/-- A block read into SB_IMG: a signature, and an entry of the logging type in place `n` (none when `n` is above 3). -/
def tableRead (n : Nat) : State :=
  let s : State := { engine .ptParsed with sd.state := .read }
  (s.poke .sbimg 510 [0x55, 0xAA]).poke .sbimg (446 + 16 * (n % 4) + 4) [if n < 4 then 0x89 else 0x0C]

theorem wit_LogServiceParses_table :
    (engine .ptParsed).lg.state = .ptParsed ∧ (engine .ptParsed).peek .sbimg 510 ≠ 0x55 ∧
    ([0, 3, 4].all fun n => decide ((tableRead n).peek .sbimg 510 = 0x55 ∧ (tableRead n).peek .sbimg 511 = 0xAA ∧
      (tableRead n).sd.state ≠ .ready ∧ (tableRead n).sd.state.terminal = false)) = true ∧
    (∀ n, n < 4 → (tableRead 4).peek .sbimg (446 + 16 * n + 4) ≠ Config.partType) ∧
    (tableRead 3).peek .sbimg (446 + 16 * 3 + 4) = Config.partType ∧
    (∀ m, m < 3 → (tableRead 3).peek .sbimg (446 + 16 * m + 4) ≠ Config.partType) ∧
    (let start := field32 (tableRead 3) .sbimg (446 + 16 * 3 + 8)
     ({ tableRead 3 with sd.state := .failed } : State).sd.state.terminal = true ∧
      start.toNat + 1 ≤ ({ tableRead 3 with sd.state := .ready } : State).sd.capacity.toNat ∧
      ({ tableRead 3 with sd.state := .ready, sd.capacity := 0 } : State).sd.capacity.toNat ≤ start.toNat) := by decide +kernel

/-- A superblock read into SB_IMG, with its version and the first `n` slots used. -/
def superblockRead (version : Byte) (n : Nat) : State :=
  ((engine .sbParsed).poke .sbimg 0 (sbInitBytes version 16)).poke .sbimg 96
    ((List.range n).flatMap fun _ => [1, 0, 0, 0, 4, 0, 0, 0, 0, 0, 0, 0])

theorem wit_LogServiceParses_superblock :
    (engine .sbParsed).peek .sbimg 0 ≠ byteAt Config.sbMagic 0 ∧
    (let s := superblockRead 2 0
     (∀ k, k < 8 → s.peek .sbimg k = byteAt Config.sbMagic k ∧ s.peek .sbimg (504 + k) = byteAt Config.sbMagic k) ∧
      s.peek .sbimg 8 ≠ s.cfg.sbVersion) ∧
    (let s := superblockRead 1 32
     s.lg.state = .sbParsed ∧ s.peek .sbimg 8 = s.cfg.sbVersion ∧ s.env.continueFlight = false ∧
      (∀ j, j < 32 → field32 s .sbimg (96 + 12 * j) ≠ 0)) := by decide +kernel
/-- A fresh flight in slot 0, in slot 31, and slot 31 continued. -/
theorem wit_FlightSelection :
    let valid := fun (s : State) => s.mem.sbimg.wf = true ∧ sbValid (sbImage s) = true ∧ sbVersionOf (sbImage s) = s.cfg.sbVersion
    (valid (superblockRead 1 0) ∧ field32 (superblockRead 1 0) .sbimg (96 + 12 * 0) = 0) ∧
    (valid (superblockRead 1 31) ∧ field32 (superblockRead 1 31) .sbimg (96 + 12 * 31) = 0 ∧
      (∀ j, j < 31 → field32 (superblockRead 1 31) .sbimg (96 + 12 * j) ≠ 0) ∧
      (superblockRead 1 31).env.continueFlight = false) ∧
    (let s : State := { superblockRead 1 32 with env.continueFlight := true }
     valid s ∧ s.env.continueFlight = true ∧ (∀ j, j ≤ 31 → field32 s .sbimg (96 + 12 * j) ≠ 0)) := by decide +kernel
/-- The log engine at the drain, with its insertion point, its buffers and what the flight has left. -/
def draining (ip : U32) (b0 b1 : Buf) (left : U32) : State :=
  { engine .active with lg.flFirst := 1, lg.partLen := 1 + left, sh := ⟨0, ip, b0, b1⟩ }

/-- The pads of §2.14 in buffer 0 (a full buffer, a spacer of length 0, three zeros); buffer 0 within the watermark and not yet
marked; buffer 1 aged, buffer 0 not checked in; a write capped at the one block left. -/
theorem wit_DrainWritesBuffer :
    ([(0, 512, draining (mkIp true 0 512) ⟨512, 0, true⟩ Buf.reset 15), (0, 508, draining (mkIp true 0 508) ⟨508, 0, true⟩ Buf.reset 15),
      (0, 509, draining (mkIp true 0 509) ⟨509, 0, true⟩ Buf.reset 15), (0, 2016, draining (mkIp true 0 2016) ⟨2016, 0, false⟩ Buf.reset 15),
      (1, 5, draining (mkIp true 1 5) ⟨2048, 1, true⟩ ⟨5, 0, false⟩ 15),
      (1, 2048, draining (mkIp false 1 0) ⟨7, 0, false⟩ ⟨2048, 0, true⟩ 1)] : List (Nat × Nat × State)).all (fun (b, c, s) =>
      let n := min ((c + 511) / 512) (s.lg.partLen.toNat - (s.lg.flFirst.toNat + s.lg.flNum.toNat))
      decide (s.cfg.wf = true ∧ s.mem.logbuf.wf = true ∧ drainsAt 10001 s = true ∧
        (b = 0 ∧ selectableAt 10001 0 s = true ∨ b = 1 ∧ selectableAt 10001 0 s = false ∧ selectableAt 10001 1 s = true) ∧
        (s.sh.buf b).count.toNat = c ∧ c ≠ 0 ∧ c ≤ s.cfg.logBufCap ∧ n ≠ 0 ∧
        (s.lg.partStart + s.lg.flFirst + s.lg.flNum).toNat + n ≤ s.sd.capacity.toNat)) = true := by decide +kernel
/-- Nothing to write; a full buffer still held by a producer; a marked buffer that is empty; a write beyond the card; no space. -/
theorem wit_DrainWritesNothing :
    (let s := draining (mkIp true 0 5) ⟨5, 0, false⟩ ⟨2048, 1, true⟩ 15
     s.cfg.wf = true ∧ drainsAt 100 s = true ∧ selectableAt 100 0 s = false ∧ selectableAt 100 1 s = false) ∧
    (let s := draining (mkIp true 1 5) ⟨0, 0, true⟩ ⟨5, 0, false⟩ 15
     drainsAt 100 s = true ∧ selectableAt 100 0 s = true ∧ (s.sh.buf 0).count = 0) ∧
    (let s : State := { draining (mkIp true 0 5) ⟨5, 0, true⟩ Buf.reset 15 with sd.capacity := 2049 }
     drainsAt 100 s = true ∧ selectableAt 100 0 s = true ∧ (s.sh.buf 0).count ≠ 0 ∧ (s.sh.buf 0).count.toNat ≤ s.cfg.logBufCap ∧
      s.lg.partLen.toNat - (s.lg.flFirst.toNat + s.lg.flNum.toNat) ≠ 0 ∧
      s.sd.capacity.toNat < (s.lg.partStart + s.lg.flFirst + s.lg.flNum).toNat +
        min (((s.sh.buf 0).count.toNat + 511) / 512) (s.lg.partLen.toNat - (s.lg.flFirst.toNat + s.lg.flNum.toNat))) ∧
    (let s := draining (mkIp true 0 5) ⟨5, 0, true⟩ Buf.reset 0
     drainsAt 100 s = true ∧ selectableAt 100 0 s = true ∧ s.lg.partLen.toNat - (s.lg.flFirst.toNat + s.lg.flNum.toNat) = 0 ∧
      s.lg.flightValid = true ∧ s.lg.partStart.toNat + 1 ≤ s.sd.capacity.toNat) := by decide +kernel
theorem wit_PersistWritesSuperblock :
    let s : State := { engine .active with sd.capacity := 2049 }
    (logFree s = true ∧ s.lg.flightValid = true ∧ s.lg.partStart.toNat + 1 ≤ s.sd.capacity.toNat) ∧
    (SbKind.oos = .oos ∧ (2 : U32) = 2 ∧ ({ s with lg.oosPending := true } : State).lg.oosPending = true) ∧
    (SbKind.pause = .pause ∧ (1 : U32) = 1 ∧ s.lg.oosPending = false ∧ ({ s with lg.pauseReq := true } : State).lg.pauseReq = true) ∧
    (SbKind.periodic = .periodic ∧ (0 : U32) = 0 ∧ s.lg.oosPending = false ∧ s.lg.pauseReq = false ∧
      s.cfg.sbPersistIntervalMs < 20001 - s.lg.tLastPersist) := by decide
theorem wit_LogCallbacks :
    (let s : State := { engine .ptPending with env.cbQueue := some ⟨.logRead, 0, false, 0⟩, lg.retry := 5 }
     s.lg.state = .ptPending ∧ s.env.cbQueue = some ⟨.logRead, 0, false, 0⟩ ∧ s.cfg.retryCeiling < s.lg.retry + 1) ∧
    (let s : State := { engine .active with
      env.cbQueue := some ⟨.logData, 1, true, 4⟩, lg.wif := .data, lg.wifNblk := 4 }
     s.env.cbQueue = some ⟨.logData, 1, true, 4⟩ ∧ s.lg.wif = .data ∧ quiet s = true ∧ (4 : U32) = s.lg.wifNblk) ∧
    (let s : State := { engine .active with env.cbQueue := some ⟨.logSb, 2, false, 0⟩ }
     s.env.cbQueue = some ⟨.logSb, 2, false, 0⟩ ∧ SbKind.oos = .oos ∧ (2 : U32) = 2) := by decide

/-! ### Invariants: a state that meets them, and a step that answers a next state -/

/-- An agenda of one call. -/
def calling (record : List Byte) (s : State) : State := { s with env.agenda := [.call .main record] }

/-- `log` of 5 bytes at 0x100. -/
def logCall : List Byte := [0x11, 0, 1, 0, 0, 0, 0, 0, 0, 5, 0, 0, 0]

theorem wit_StepKeeps :
    let s := calling logCall (withHost 0x102 [1, 0, 2])
    memCanonical s = true ∧ s.cfg.wf = true ∧ ipInRange s = true ∧ atBoundary s = true ∧
    nextIs (step s) (fun t => t.env.ret == .code .ok && t.mem.logbuf == [(2, 1), (4, 2)]) = true := by decide +kernel
/-- R430 and R431 against R57's first bullet: main between steps 3 and 4 of its first reservation, two irq reservations (log 33). -/
theorem test_two_irq_reservations_break_the_bound :
    nextIs (exec (.checkout 2000) { logging 0x80000000 0 0 with env.irqs := [[], [], [], [.checkout 100, .checkout 2048]] }) (fun t =>
      t.env.ret == .word 0 && t.env.irqRets == [.word 2048, .word 0] && t.sh.buf0.count == 4048) = true := by decide +kernel
/-- Main's first grant preempted between its steps 3 and 4 by an irq reservation and its checkin: irq fills buffer 1, main's grant is
counted. -/
theorem wit_StepKeepsBufferCounts :
    let s : State := { calling [0x13, 0xD0, 7, 0, 0] (logging (mkIp true 0 0) 0 0) with
      env.irqs := [[], [], [], [.checkout 2048, .checkin 2048]] }
    s.cfg.wf = true ∧ ipInRange s = true ∧ countsInRange s = true ∧ oneGrantPerStep s = true ∧
    nextIs (step s) (fun t => t.env.ret == .word 0 && t.env.irqRets == [.word 2048, .code .ok] &&
      t.sh.buf0.count == 2000 && t.sh.buf1.count == 2048) = true := by decide +kernel
/-- `resume` ends a pause: the flight stays selected. -/
theorem wit_StepKeepsFlightValid :
    let s := calling [0x16] (engine .paused)
    flightHeld s = true ∧ nextIs (step s) (fun t => t.lg.state == .active && flightHeld t) = true := by decide +kernel
theorem wit_TerminalLogStateLasts :
    let s := calling [0x10, 9, 0, 0, 0] (engine .outOfSpace)
    logStopped s = true ∧ s.env.agenda.head? ≠ some .reset ∧ nextIs (step s) (fun t => t.env.now == 9) = true := by decide +kernel
/-- A poll that sees the card removed, and one that sees it present. -/
theorem wit_TerminalSdStateLasts :
    [(0 : Byte), 1].all (fun detect =>
      let s := calling [0x01, 9, 0, 0, 0, detect] { ready 0 with sd.state := .unusable }
      decide (s.sd.state.terminal = true ∧ s.env.agenda.head? ≠ some .reset) &&
        nextIs (step s) (fun t => t.sd.state == if detect = 0 then .absent else .unusable)) = true := by decide +kernel

theorem wit_InvariantsHoldAtReset :
    ({ ready 9 with env.agenda := [.reset, .complete] } : State).env.agenda = .reset :: [.complete] := rfl

end Sys2Proof.Tests
end

section
/-! The CRC-7 of the command frames (40_crc_command.md R200, R201, R205, R207). -/

namespace Sys2Proof.Machine

/-! ### One bit of CRC-7, and its linearity -/

/-- The bit step is linear over xor: a register difference `e` shows as its top bit in the incoming bit and is shifted. -/
theorem crc7Bit_xor (r e : BitVec 7) (bit : Bool) :
    crc7Bit (r ^^^ e) (bit ^^ e.getLsbD 6) = crc7Bit r bit ^^^ (e <<< 1) := by
  have hfeedback : ((r ^^^ e).getLsbD 6 != (bit ^^ e.getLsbD 6)) = (r.getLsbD 6 != bit) := by
    rw [BitVec.getLsbD_xor]
    cases r.getLsbD 6 <;> cases e.getLsbD 6 <;> cases bit <;> rfl
  unfold crc7Bit
  rw [hfeedback, BitVec.shiftLeft_xor_distrib]
  split
  case isTrue => ac_rfl
  case isFalse => rfl

/-! ### One byte of CRC-7: the register can be xored into the byte -/

/-- `((c << 1) xor b) & 0xFF`: the index of R201's table look-up. -/
def crc7Index (c : BitVec 7) (b : Byte) : Byte := (c ++ (0#1)) ^^^ b

/-- Bit `k` of the index carries the bit of `c` that is on top of the register after the `7 - k` bits above it. -/
theorem getLsbD_crc7Index (c : BitVec 7) (b : Byte) {k : Nat} (hk : k < 8) :
    (crc7Index c b).getLsbD k = (b.getLsbD k ^^ (c <<< (8 - (k + 1))).getLsbD 6) := by
  unfold crc7Index
  rw [BitVec.getLsbD_xor, BitVec.getLsbD_append, BitVec.getLsbD_shiftLeft, Bool.xor_comm]
  rcases Nat.eq_zero_or_pos k with rfl | hpos
  · simp
  · have htop : 6 - (7 - k) = k - 1 := by omega
    simp [htop, show ¬ k < 1 by omega, show ¬ 6 < 7 - k by omega]

/-- The low `k` bits of a byte go into the register, the highest first. -/
def crc7LowBits (k : Nat) (r : BitVec 7) (b : Byte) : BitVec 7 :=
  (List.range k).reverse.foldl (fun r i => crc7Bit r (b.getLsbD i)) r

theorem crc7LowBits_zero (r : BitVec 7) (b : Byte) : crc7LowBits 0 r b = r := rfl

theorem crc7LowBits_succ (k : Nat) (r : BitVec 7) (b : Byte) :
    crc7LowBits (k + 1) r b = crc7LowBits k (crc7Bit r (b.getLsbD k)) b := by
  simp [crc7LowBits, List.range_succ]

theorem crc7Byte_eq_crc7LowBits (r : BitVec 7) (b : Byte) : crc7Byte r b = crc7LowBits 8 r b := rfl

/-- With `k` bits to go, the runs on the byte and on the index differ by `c` shifted by the bits already taken. -/
theorem crc7LowBits_crc7Index (c : BitVec 7) (b : Byte) {k : Nat} (hk : k ≤ 8) (r : BitVec 7) :
    crc7LowBits k (r ^^^ (c <<< (8 - k))) (crc7Index c b) = crc7LowBits k r b ^^^ (c <<< 8) := by
  induction k generalizing r with
  | zero => rw [crc7LowBits_zero, crc7LowBits_zero]
  | succ k ih =>
    have hshift : (c <<< (8 - (k + 1))) <<< 1 = c <<< (8 - k) := by
      rw [← BitVec.shiftLeft_add]
      congr 1
      omega
    rw [crc7LowBits_succ, crc7LowBits_succ, getLsbD_crc7Index c b hk, crc7Bit_xor, hshift, ih (by omega)]

/-- R201's update: the register after a byte is the table's entry at the index. -/
theorem crc7Byte_zero_crc7Index (c : BitVec 7) (b : Byte) : crc7Byte 0 (crc7Index c b) = crc7Byte c b := by
  have hrun := crc7LowBits_crc7Index c b (k := 8) le_rfl c
  have hout : c <<< 8 = 0 := BitVec.shiftLeft_eq_zero (by decide)
  simpa [crc7Byte_eq_crc7LowBits, hout] using hrun

theorem crc7Bytes_singleton (b : Byte) : crc7Bytes [b] = crc7Byte 0 b := rfl

/-- Settles O6: byte by byte, R200's register after the byte is the table's entry at R201's index. -/
theorem crc7TableForm : Obligations.Crc7TableForm := by
  have hupdate : (fun (c : BitVec 7) x => crc7Bytes [(c ++ (0#1)) ^^^ x]) = crc7Byte := by
    funext c x
    exact (crc7Bytes_singleton _).trans (crc7Byte_zero_crc7Index c x)
  refine ⟨fun b => ?_, by decide⟩
  rw [hupdate]
  rfl

/-! ### The command frame -/

theorem frameBytes_length (idx : BitVec 6) (arg : U32) (crc : BitVec 7) : (frameBytes idx arg crc).length = 6 := rfl

theorem take_frameBytes (idx : BitVec 6) (arg : U32) (crc : BitVec 7) :
    (frameBytes idx arg crc).take 5 = frameHead idx arg := rfl

theorem byteAt_frameBytes_crc (idx : BitVec 6) (arg : U32) (crc : BitVec 7) :
    byteAt (frameBytes idx arg crc) 5 = crc ++ (1#1) := rfl

/-- Bits 7 to 1 of the last byte are the CRC field (R130). -/
theorem crcByte_shift (crc : BitVec 7) : (crc ++ (1#1)) >>> 1 = (0#1) ++ crc := by
  apply BitVec.eq_of_getLsbD_eq
  intro i hi
  rw [BitVec.getLsbD_ushiftRight, BitVec.getLsbD_append, BitVec.getLsbD_append]
  by_cases h : i < 7
  · simp [h]
  · simp [h, BitVec.getLsbD_of_ge crc i (by omega)]

/-- Bit 0 of the last byte is the end bit (R130). -/
theorem crcByte_endBit (crc : BitVec 7) : (crc ++ (1#1)) &&& 1 = 1 := by
  apply BitVec.eq_of_getLsbD_eq
  intro i hi
  rw [BitVec.getLsbD_and, BitVec.getLsbD_append]
  rcases Nat.eq_zero_or_pos i with rfl | hpos
  · simp
  · simp [show ¬ i < 1 by omega, show i ≠ 0 by omega]

theorem exec_buildCommand (index argument : U32) (s : State) :
    exec (.buildCommand index argument) s = execBuildCommand index argument s := rfl

/-- An index that fits R205's six bits is used as it is. -/
theorem execBuildCommand_setWidth (index : BitVec 6) (argument : U32) (s : State) :
    execBuildCommand (index.setWidth 32) argument s = .next (putRet (.bytes (buildCommandBytes index argument)) s) := by
  have hlow : (index.setWidth 32).extractLsb' 0 6 = index := by
    rw [← BitVec.setWidth_eq_extractLsb' (by decide)]
    simp
  rw [execBuildCommand, hlow]

/-- Settles O3: the frame's last byte is laid out as the CRC field of its first five bytes, then the end bit. -/
theorem framesCarryTheirCrc : Obligations.FramesCarryTheirCrc := by
  intro index argument
  refine ⟨frameBytes_length .., ?crc, ?endBit, fun s => ?run⟩
  case crc =>
    rw [buildCommandBytes, byteAt_frameBytes_crc, take_frameBytes, crcByte_shift, frameCrc]
  case endBit =>
    rw [buildCommandBytes, byteAt_frameBytes_crc, crcByte_endBit]
  case run => rw [exec_buildCommand, execBuildCommand_setWidth]

end Sys2Proof.Machine
end

section
/-! The host operations of the block device and the state queries (42_block_io.md R311-R317, 44_logging_fsm.md R403, R404,
45_reservation.md R440, R441). -/

namespace Sys2Proof.Machine

/-! ### The state queries -/

theorem exec_sdState (s : State) : exec .sdState s = .next (putRet (.byte s.sd.state.code) s) := rfl

theorem exec_status (s : State) : exec .status s = .next (putRet (.byte s.sd.state.status) s) := rfl

theorem exec_sdLastError (s : State) : exec .sdLastError s = .next (putRet (.byte s.sd.lastErr.errorCode) s) := rfl

theorem exec_logState (s : State) : exec .logState s = .next (putRet (.byte s.lg.state.code) s) := rfl

theorem exec_logFailReason (s : State) : exec .logFailReason s = .next (putRet (.byte s.lg.failReason.errorCode) s) := rfl

theorem exec_capacityBlocks (s : State) : exec .capacityBlocks s = .next (putRet (.word s.sd.capacity) s) := rfl

theorem exec_flightBlocks (s : State) :
    exec .flightBlocks s = .next (putRet (.word (if s.lg.flightValid then s.lg.flNum else 0)) s) := rfl

/-- R441's load is one atomic step: where nothing arrives before it, it reads the caller's own count. -/
theorem exec_missedCheckouts_quiet {s : State} (hquiet : quiet s = true) :
    exec .missedCheckouts s = .next (putRet (.word s.sh.missed) s) := by
  change toOutcome (doMissedCheckouts preemptPoint s) = _
  rw [doMissedCheckouts, preemptPoint_quiet hquiet]
  rfl

/-- A table whose every row holds a function's value gives that value for each of its keys. -/
theorem value_eq_of_mem_table {α β : Type} {f : α → β} {table : List (α × β)} {key : α} {value : β}
    (hmem : (key, value) ∈ table) (hrows : ∀ row ∈ table, row.2 = f row.1) : value = f key :=
  hrows _ hmem

/-- Settles O25: every row of a table is checked against the model's code function, and the query returns that function's
value at its register. -/
theorem stateQueries : Obligations.StateQueries := by
  refine ⟨?sd, ?log, ?err, ?registers, ?hostCodes⟩
  case sd =>
    intro s st code proj hrow hst
    have hcodes : (code, proj) = (st.code, st.status) :=
      value_eq_of_mem_table (f := fun st => (SdState.code st, SdState.status st)) hrow (by decide)
    obtain ⟨rfl, rfl⟩ := Prod.mk.inj hcodes
    subst hst
    exact ⟨exec_sdState s, exec_status s⟩
  case log =>
    intro s st code hrow hst
    obtain rfl : code = st.code := value_eq_of_mem_table hrow (by decide)
    rw [exec_logState, hst]
  case err =>
    intro s e code hrow
    obtain rfl : code = e.errorCode := value_eq_of_mem_table hrow (by decide)
    constructor
    · intro hlast
      rw [exec_sdLastError, hlast]
    · intro hreason
      rw [exec_logFailReason, hreason]
  case registers =>
    intro s
    refine ⟨exec_capacityBlocks s, fun hselected => ?_, fun hnone => ?_, exec_missedCheckouts_quiet⟩
    · rw [exec_flightBlocks, if_pos hselected]
    · rw [exec_flightBlocks, hnone, if_neg Bool.false_ne_true]
  case hostCodes => rfl

/-! ### Admission of `read` and `write` -/

theorem exec_read (addr count : U32) (buf : HostAddr) (cb ctx : U32) (s : State) :
    exec (.read addr count buf cb ctx) s =
      .next (putRet (.code (startOp .read addr count ⟨.host, buf⟩ (.client cb) ctx s).1)
        (startOp .read addr count ⟨.host, buf⟩ (.client cb) ctx s).2) := rfl

theorem exec_write (addr count : U32) (buf : HostAddr) (cb ctx : U32) (s : State) :
    exec (.write addr count buf cb ctx) s =
      .next (putRet (.code (startOp .write addr count ⟨.host, buf⟩ (.client cb) ctx s).1)
        (startOp .write addr count ⟨.host, buf⟩ (.client cb) ctx s).2) := rfl

/-- The preconditions of R311, as propositions. -/
theorem admits_iff (s : State) (addr count : U32) :
    admits s addr count = true ↔
      s.sd.state = .ready ∧ count ≠ 0 ∧ addr.toNat + count.toNat ≤ s.sd.capacity.toNat := by
  simp [admits, and_assoc]

/-- What R311 is not: an engine that is not ready, an empty range, or one that ends beyond the capacity. -/
theorem admits_eq_false_iff (s : State) (addr count : U32) :
    admits s addr count = false ↔
      s.sd.state ≠ .ready ∨ count = 0 ∨ s.sd.capacity.toNat < addr.toNat + count.toNat := by
  rw [← Bool.not_eq_true, admits_iff]
  simp only [not_and_or, not_not, not_le, ne_eq]

theorem opStarted_eq_opAccepted (dir : OpDir) (addr count : U32) (buf : Ptr) (cb : Cb) (ctx : U32) (s : State) :
    opStarted dir addr count buf cb ctx s = opAccepted dir addr count buf cb ctx s := by
  cases dir <;> rfl

theorem startOp_of_admits {s : State} {addr count : U32} (h : admits s addr count = true)
    (dir : OpDir) (buf : Ptr) (cb : Cb) (ctx : U32) :
    startOp dir addr count buf cb ctx s = (.ok, opAccepted dir addr count buf cb ctx s) := by
  rw [startOp, if_pos h, opStarted_eq_opAccepted]

theorem startOp_of_not_admits {s : State} {addr count : U32} (h : admits s addr count = false)
    (dir : OpDir) (buf : Ptr) (cb : Cb) (ctx : U32) :
    startOp dir addr count buf cb ctx s = (.rejected, s) := by
  rw [startOp, h, if_neg Bool.false_ne_true]

/-- Settles O26: both operations are one admission, which R311's test splits into its two answers. -/
theorem operationAdmission : Obligations.OperationAdmission := by
  intro s addr count buf cb ctx
  refine ⟨fun hready hcount hrange => ?accepted, fun hrefused => ?refused, rfl, rfl⟩
  case accepted =>
    have hadmits := (admits_iff s addr count).mpr ⟨hready, hcount, hrange⟩
    rw [exec_read, exec_write, startOp_of_admits hadmits, startOp_of_admits hadmits]
    exact ⟨rfl, rfl⟩
  case refused =>
    have hrejects := (admits_eq_false_iff s addr count).mpr hrefused
    rw [exec_read, exec_write, startOp_of_not_admits hrejects, startOp_of_not_admits hrejects]
    exact ⟨rfl, rfl⟩

end Sys2Proof.Machine
end

section
/-! The record header (43_codecs.md R360, R361). -/

namespace Sys2Proof.Machine

theorem exec_hdrEncode (cls type length : U16) (s : State) :
    exec (.hdrEncode cls type length) s = .next (putRet (.bytes (hdrBytes cls type length)) s) := rfl

theorem exec_hdrDecode (b0 b1 b2 b3 : Byte) (s : State) :
    exec (.hdrDecode b0 b1 b2 b3) s = .next (putRet (.header (hdrClass b0) (hdrType b0 b1) (pack16 b3 b2)) s) := rfl

/-! ### Each field read back from the bytes it was laid out in -/

/-- Byte 0's low six bits are its class field, whatever stands above them. -/
@[simp] theorem hdrClass_append (typeLow : BitVec 2) (cls : BitVec 6) : hdrClass (typeLow ++ cls) = cls :=
  BitVec.extractLsb'_append_eq_right

/-- Byte 0's high two bits are the low end of the type field, whatever stands below them. -/
theorem hdrType_append (typeLow : BitVec 2) (cls : BitVec 6) (typeHigh : Byte) :
    hdrType (typeLow ++ cls) typeHigh = typeHigh ++ typeLow := by
  have hlow : (typeLow ++ cls).extractLsb' 6 2 = typeLow := BitVec.extractLsb'_append_eq_left
  rw [hdrType, hlow]

/-- The type's two parts are adjacent, so they join into its low ten bits; bits 10 to 15 are dropped. -/
@[simp] theorem hdrType_extract (type : U16) (cls : BitVec 6) :
    hdrType (type.extractLsb' 0 2 ++ cls) (type.extractLsb' 2 8) = type.setWidth 10 := by
  rw [hdrType_append, BitVec.setWidth_eq_extractLsb' (by decide)]
  exact BitVec.extractLsb'_append_extractLsb'_eq_extractLsb' rfl

/-- A u16 is its two bytes, the higher first. -/
@[simp] theorem pack16_byteOf (v : U16) : pack16 (byteOf v 1) (byteOf v 0) = v :=
  BitVec.extractLsb'_append_extractLsb'

/-- The decoder on the encoder's four bytes gives the low six bits of the class, the low ten of the type, and the length. -/
theorem exec_hdrDecode_hdrBytes (cls type length : U16) (s : State) :
    exec (.hdrDecode (type.extractLsb' 0 2 ++ cls.extractLsb' 0 6) (type.extractLsb' 2 8) (byteOf length 0) (byteOf length 1)) s =
      .next (putRet (.header (cls.setWidth 6) (type.setWidth 10) length) s) := by
  have hclass : cls.extractLsb' 0 6 = cls.setWidth 6 := (BitVec.setWidth_eq_extractLsb' (by decide)).symm
  rw [exec_hdrDecode, hdrClass_append, hdrType_extract, pack16_byteOf, hclass]

/-- Settles O14: the encoder's bytes are `hdrBytes`, and the decoder reads each field back from them. -/
theorem recordHeader : Obligations.RecordHeader := by
  refine ⟨fun s cls type length => ?encoded, fun s b0 b1 b2 b3 => ?decoded, fun cls type length b0 b1 b2 b3 => ?hostCodes⟩
  case encoded =>
    exact ⟨_, _, _, _, exec_hdrEncode cls type length s, rfl, rfl, rfl, rfl, exec_hdrDecode_hdrBytes cls type length s⟩
  case decoded => exact exec_hdrDecode b0 b1 b2 b3 s
  case hostCodes => exact ⟨rfl, rfl⟩

end Sys2Proof.Machine
end

section
/-! The log engine's three requests (44_logging_fsm.md R400, R401, R402). -/

namespace Sys2Proof.Machine

/-! ### `pause` -/

theorem exec_pause (s : State) :
    exec .pause s =
      .next (putRet .none (if s.lg.state = .active then { s with lg := { s.lg with pauseReq := true } } else s)) := rfl

theorem exec_pause_of_active {s : State} (hactive : s.lg.state = .active) :
    exec .pause s = .next (putRet .none { s with lg := { s.lg with pauseReq := true } }) := by
  rw [exec_pause, if_pos hactive]

theorem exec_pause_of_not_active {s : State} (hother : s.lg.state ≠ .active) :
    exec .pause s = .next (putRet .none s) := by
  rw [exec_pause, if_neg hother]

/-! ### `resume` -/

theorem exec_resume (s : State) :
    exec .resume s = .next (putRet .none
      (if s.lg.state = .paused then { s with lg := { s.lg with state := .active, pauseReq := false } } else s)) := rfl

theorem exec_resume_of_paused {s : State} (hpaused : s.lg.state = .paused) :
    exec .resume s = .next (putRet .none { s with lg := { s.lg with state := .active, pauseReq := false } }) := by
  rw [exec_resume, if_pos hpaused]

theorem exec_resume_of_not_paused {s : State} (hother : s.lg.state ≠ .paused) :
    exec .resume s = .next (putRet .none s) := by
  rw [exec_resume, if_neg hother]

/-! ### `set_flight_timestamp` -/

theorem exec_setFlightTimestamp (utc : U32) (s : State) :
    exec (.setFlightTimestamp utc) s = .next (putRet .none
      (if s.lg.flightValid ∧ (s.lg.state = .active ∨ s.lg.state = .paused) ∧ s.lg.flTs = 0
        then { s with lg := { s.lg with flTs := utc } } else s)) := rfl

theorem exec_setFlightTimestamp_of_unset {s : State} (utc : U32) (hvalid : s.lg.flightValid = true)
    (hstate : s.lg.state = .active ∨ s.lg.state = .paused) (hunset : s.lg.flTs = 0) :
    exec (.setFlightTimestamp utc) s = .next (putRet .none { s with lg := { s.lg with flTs := utc } }) := by
  rw [exec_setFlightTimestamp, if_pos ⟨hvalid, hstate, hunset⟩]

/-- Where R402 names no effect the guard fails whether a flight is selected or not, so no invariant is needed. -/
theorem exec_setFlightTimestamp_of_no_effect {s : State} (utc : U32)
    (hother : ¬(s.lg.state = .active ∨ s.lg.state = .paused) ∨ s.lg.flTs ≠ 0) :
    exec (.setFlightTimestamp utc) s = .next (putRet .none s) := by
  rw [exec_setFlightTimestamp, if_neg]
  rintro ⟨-, hstate, hunset⟩
  exact hother.elim (· hstate) (· hunset)

/-- R59: the invariant answers the model's own test for a selected flight in the two states R402 names. -/
theorem flightValid_of_flightHeld {s : State} (hheld : flightHeld s = true)
    (hstate : s.lg.state = .active ∨ s.lg.state = .paused) : s.lg.flightValid = true := by
  unfold flightHeld at hheld
  rcases hstate with hactive | hpaused
  · simpa [hactive] using hheld
  · simpa [hpaused] using hheld

/-- Settles O44: each request by its guard; only setting the timestamp turns on the invariant, which gives the selected flight. -/
theorem pauseResumeTimestamp : Obligations.PauseResumeTimestamp := by
  intro s utc hheld
  refine ⟨exec_pause_of_active, exec_pause_of_not_active, exec_resume_of_paused, exec_resume_of_not_paused,
    fun hstate hunset => ?set, exec_setFlightTimestamp_of_no_effect utc, ?hostCodes⟩
  case set => exact exec_setFlightTimestamp_of_unset utc (flightValid_of_flightHeld hheld hstate) hstate hunset
  case hostCodes => exact ⟨rfl, rfl, rfl⟩

end Sys2Proof.Machine
end

section
/-! The machine right after reset (70_reset_and_hazards.md R550): the parameters stand in `cfg` alone, and every other part starts at its one
reset record. -/

namespace Sys2Proof.Machine

@[simp] theorem State.resetWith_cfg (p : Params) : (State.resetWith p).cfg = p := rfl
@[simp] theorem State.resetWith_sd (p : Params) : (State.resetWith p).sd = Sd.reset := rfl
@[simp] theorem State.resetWith_op (p : Params) : (State.resetWith p).op = Op.reset := rfl
@[simp] theorem State.resetWith_lg (p : Params) : (State.resetWith p).lg = Lg.reset := rfl
@[simp] theorem State.resetWith_sh (p : Params) : (State.resetWith p).sh = Shared.reset := rfl
@[simp] theorem State.resetWith_mem (p : Params) : (State.resetWith p).mem = ⟨[], [], []⟩ := rfl
@[simp] theorem State.resetWith_env (p : Params) : (State.resetWith p).env = Env.reset := rfl

theorem State.reset_eq_resetWith : State.reset = State.resetWith Config.default := rfl

/-- Settles O59: no parameter reaches a part of the state that the rule's table names, so each value is read off that part's
reset record. -/
theorem resetValues : Obligations.ResetValues := by
  intro p s
  refine ⟨?sdEngine, ?logEngine, ?sharedAndCritical, Config.default, State.reset_eq_resetWith⟩
  case sdEngine => simp [s, Sd.reset, Op.reset]
  case logEngine => simp [s, Lg.reset]
  case sharedAndCritical => simp [s, Shared.reset, Buf.reset, Env.reset]

end Sys2Proof.Machine
end

section
/-! The encodings (30_encoding.md sections 1, 2, 3, 6): each field reads back from its bytes, and the bytes are the field's. -/

namespace Sys2Proof

/-! ### A word and its bytes, as numbers -/

/-- Two fields side by side are one number in the base of the lower field. -/
theorem toNat_append_eq {m n : Nat} (x : BitVec m) (y : BitVec n) : (x ++ y).toNat = x.toNat * 2 ^ n + y.toNat := by
  rw [BitVec.toNat_append, ← Nat.shiftLeft_add_eq_or_of_lt y.isLt, Nat.shiftLeft_eq]

theorem pack16_toNat (b1 b0 : Byte) : (pack16 b1 b0).toNat = b1.toNat * 2 ^ 8 + b0.toNat := toNat_append_eq b1 b0

theorem pack32_toNat (b3 b2 b1 b0 : Byte) :
    (pack32 b3 b2 b1 b0).toNat = b3.toNat * 2 ^ 24 + b2.toNat * 2 ^ 16 + b1.toNat * 2 ^ 8 + b0.toNat := by
  unfold pack32
  rw [toNat_append_eq, toNat_append_eq, toNat_append_eq]
  omega

theorem pack64_toNat (b7 b6 b5 b4 b3 b2 b1 b0 : Byte) : (pack64 b7 b6 b5 b4 b3 b2 b1 b0).toNat =
    b7.toNat * 2 ^ 56 + b6.toNat * 2 ^ 48 + b5.toNat * 2 ^ 40 + b4.toNat * 2 ^ 32 +
      b3.toNat * 2 ^ 24 + b2.toNat * 2 ^ 16 + b1.toNat * 2 ^ 8 + b0.toNat := by
  unfold pack64
  rw [toNat_append_eq, pack32_toNat, pack32_toNat]
  omega

theorem byteOf_toNat {n : Nat} (v : BitVec n) (k : Nat) : (byteOf v k).toNat = v.toNat / 2 ^ (8 * k) % 256 := by
  rw [byteOf, BitVec.extractLsb'_toNat, Nat.shiftRight_eq_div_pow]

theorem pack32_byteOf (v : U32) : pack32 (byteOf v 3) (byteOf v 2) (byteOf v 1) (byteOf v 0) = v := by
  apply BitVec.eq_of_toNat_eq
  simp only [pack32_toNat, byteOf_toNat]
  omega

theorem pack64_byteOf (v : HostAddr) :
    pack64 (byteOf v 7) (byteOf v 6) (byteOf v 5) (byteOf v 4) (byteOf v 3) (byteOf v 2) (byteOf v 1) (byteOf v 0) = v := by
  apply BitVec.eq_of_toNat_eq
  simp only [pack64_toNat, byteOf_toNat]
  omega

/-- A byte of a word is known by its value. -/
theorem byteOf_eq {n : Nat} {v : BitVec n} {k : Nat} {b : Byte} (h : v.toNat / 2 ^ (8 * k) % 256 = b.toNat) : byteOf v k = b :=
  BitVec.eq_of_toNat_eq (by rw [byteOf_toNat, h])

theorem le16Bytes_pack16 (b1 b0 : Byte) : le16Bytes (pack16 b1 b0) = [b0, b1] := by
  have h0 : byteOf (pack16 b1 b0) 0 = b0 := byteOf_eq (by rw [pack16_toNat]; omega)
  have h1 : byteOf (pack16 b1 b0) 1 = b1 := byteOf_eq (by rw [pack16_toNat]; omega)
  rw [le16Bytes, h0, h1]

theorem byteOf_pack32 (b3 b2 b1 b0 : Byte) :
    byteOf (pack32 b3 b2 b1 b0) 0 = b0 ∧ byteOf (pack32 b3 b2 b1 b0) 1 = b1 ∧
    byteOf (pack32 b3 b2 b1 b0) 2 = b2 ∧ byteOf (pack32 b3 b2 b1 b0) 3 = b3 := by
  refine ⟨byteOf_eq ?_, byteOf_eq ?_, byteOf_eq ?_, byteOf_eq ?_⟩ <;> rw [pack32_toNat] <;> omega

theorem le32Bytes_pack32 (b3 b2 b1 b0 : Byte) : le32Bytes (pack32 b3 b2 b1 b0) = [b0, b1, b2, b3] := by
  obtain ⟨h0, h1, h2, h3⟩ := byteOf_pack32 b3 b2 b1 b0
  rw [le32Bytes, h0, h1, h2, h3]

theorem be32Bytes_pack32 (b3 b2 b1 b0 : Byte) : be32Bytes (pack32 b3 b2 b1 b0) = [b3, b2, b1, b0] := by
  obtain ⟨h0, h1, h2, h3⟩ := byteOf_pack32 b3 b2 b1 b0
  rw [be32Bytes, h0, h1, h2, h3]

theorem le64Bytes_pack64 (b7 b6 b5 b4 b3 b2 b1 b0 : Byte) :
    le64Bytes (pack64 b7 b6 b5 b4 b3 b2 b1 b0) = [b0, b1, b2, b3, b4, b5, b6, b7] := by
  simp only [le64Bytes, List.cons.injEq, and_true]
  refine ⟨byteOf_eq ?_, byteOf_eq ?_, byteOf_eq ?_, byteOf_eq ?_, byteOf_eq ?_, byteOf_eq ?_, byteOf_eq ?_, byteOf_eq ?_⟩ <;>
    rw [pack64_toNat] <;> omega

/-! ### The readers of operands answer exactly the operand's bytes -/

/-- A reader takes the bytes of exactly one value off the front of a sequence. -/
def Reads {α : Type} (get : List Byte → Except DecodeError (α × List Byte)) (put : α → List Byte) : Prop :=
  ∀ b v rest, get b = .ok (v, rest) ↔ b = put v ++ rest

/-- What a reader and the decoder of the rest answer together. -/
theorem Reads.bind_eq_ok {α β : Type} {get : List Byte → Except DecodeError (α × List Byte)} {put : α → List Byte}
    (hget : Reads get put) (b : List Byte) (f : α × List Byte → Except DecodeError β) (r : β) :
    (get b >>= f) = .ok r ↔ ∃ v rest, b = put v ++ rest ∧ f (v, rest) = .ok r := by
  constructor
  · intro h
    obtain ⟨⟨v, rest⟩, hb, hf⟩ := Machine.bind_eq_ok h
    exact ⟨v, rest, (hget _ _ _).mp hb, hf⟩
  · rintro ⟨v, rest, hb, hf⟩
    rw [(hget _ _ _).mpr hb]
    exact hf

theorem reads_get8 : Reads get8 put8 := by
  intro b v rest
  cases b <;> simp [get8, put8]

theorem reads_get16 : Reads get16 le16Bytes := by
  intro b v rest
  constructor
  · intro h
    unfold get16 at h
    split at h
    · obtain ⟨rfl, rfl⟩ := Prod.mk.inj (Except.ok.inj h)
      rw [le16Bytes_pack16]; rfl
    · cases h
  · rintro rfl
    simp [get16, le16Bytes, Machine.pack16_byteOf]

theorem reads_get32 : Reads get32 le32Bytes := by
  intro b v rest
  constructor
  · intro h
    unfold get32 at h
    split at h
    · obtain ⟨rfl, rfl⟩ := Prod.mk.inj (Except.ok.inj h)
      rw [le32Bytes_pack32]; rfl
    · cases h
  · rintro rfl
    simp [get32, le32Bytes, pack32_byteOf]

theorem reads_getBe32 : Reads getBe32 be32Bytes := by
  intro b v rest
  constructor
  · intro h
    unfold getBe32 at h
    split at h
    · obtain ⟨rfl, rfl⟩ := Prod.mk.inj (Except.ok.inj h)
      rw [be32Bytes_pack32]; rfl
    · cases h
  · rintro rfl
    simp [getBe32, be32Bytes, pack32_byteOf]

theorem reads_get64 : Reads get64 le64Bytes := by
  intro b v rest
  constructor
  · intro h
    unfold get64 at h
    split at h
    · obtain ⟨rfl, rfl⟩ := Prod.mk.inj (Except.ok.inj h)
      rw [le64Bytes_pack64]; rfl
    · cases h
  · rintro rfl
    simp [get64, le64Bytes, pack64_byteOf]

theorem getBool_cons (b : Byte) (bs : List Byte) :
    getBool (b :: bs) = if b = 0 then .ok (false, bs) else if b = 1 then .ok (true, bs) else .error (.badBoolean b) := rfl

theorem reads_getBool : Reads getBool putBool := by
  intro b v rest
  cases b with
  | nil => simp [getBool, putBool]
  | cons b bs =>
    rw [getBool_cons]
    split
    case isTrue h0 => subst h0; cases v <;> simp [putBool]
    case isFalse h0 =>
      split
      case isTrue h1 => subst h1; cases v <;> simp [putBool]
      case isFalse h1 => cases v <;> simp_all [putBool]

theorem statusByte_bit7 (status : BitVec 7) : (statusByte status).getLsbD 7 = false := by
  rw [statusByte, BitVec.getLsbD_append]
  rfl

theorem statusByte_low (status : BitVec 7) : (statusByte status).extractLsb' 0 7 = status :=
  BitVec.extractLsb'_append_eq_right

/-- A byte whose bit 7 is 0 is the R1 byte of its low seven bits. -/
theorem statusByte_of_bit7 {b : Byte} (h : b.getLsbD 7 = false) : statusByte (b.extractLsb' 0 7) = b := by
  apply BitVec.eq_of_getLsbD_eq
  intro i hi
  rw [statusByte, BitVec.getLsbD_append, BitVec.getLsbD_extractLsb']
  by_cases h7 : i < 7
  · simp [h7]
  · obtain rfl : i = 7 := by omega
    exact h.symm

theorem getStatus_cons (b : Byte) (bs : List Byte) :
    getStatus (b :: bs) = if b.getLsbD 7 then .error (.notAResponse b) else .ok (b.extractLsb' 0 7, bs) := rfl

theorem reads_getStatus : Reads getStatus (fun status => [statusByte status]) := by
  intro b v rest
  cases b with
  | nil => simp [getStatus]
  | cons b bs =>
    rw [getStatus_cons]
    constructor
    · intro h
      split at h
      · cases h
      next h7 =>
        obtain ⟨rfl, rfl⟩ := Prod.mk.inj (Except.ok.inj h)
        exact congrArg (· :: bs) (statusByte_of_bit7 (by simpa using h7)).symm
    · intro h
      obtain ⟨rfl, rfl⟩ := List.cons.inj h
      rw [statusByte_bit7, statusByte_low]; rfl

/-! ### Call records -/

/-- The record of an instruction decodes to it. -/
theorem decodeHost_encode (i : Instr) (h : formatOf i = .hostop) (rest : List Byte) :
    decodeHost (encode i ++ rest) = .ok (i, rest) := by
  cases i <;> cases h
  all_goals
    simp [encode, decodeHost, decodeHostOp, reads_get32.bind_eq_ok, reads_get64.bind_eq_ok, reads_get8.bind_eq_ok,
      reads_get16.bind_eq_ok, reads_getBool.bind_eq_ok]

/-- A call record that decodes is its instruction's: the code picks the operands, and each reader answers its operand's bytes. -/
theorem decodeHostOp_eq_ok {code : Byte} {b rest : List Byte} {i : Instr} (h : decodeHostOp code b = .ok (i, rest)) :
    code :: b = encode i ++ rest := by
  have hcode : code = BitVec.ofNat 8 code.toNat := by simp
  revert h
  rw [hcode]
  unfold decodeHostOp
  split
  all_goals
    rename_i hnat
    simp only [reads_get32.bind_eq_ok, reads_get64.bind_eq_ok, reads_get8.bind_eq_ok, reads_get16.bind_eq_ok,
      reads_getBool.bind_eq_ok, Except.ok.injEq, Prod.mk.injEq, forall_exists_index, and_imp, reduceCtorEq, false_imp_iff]
  all_goals
    intros
    subst_vars
    simp_all [encode]

/-! ### Command frames -/

/-- A frame's first byte is its start and direction bits and its index (R130). -/
theorem frameFirst_fields (idx : BitVec 6) :
    ((0b01#2) ++ idx).extractLsb' 6 2 = 0b01#2 ∧ ((0b01#2) ++ idx).extractLsb' 0 6 = idx :=
  ⟨BitVec.extractLsb'_append_eq_left, BitVec.extractLsb'_append_eq_right⟩

/-- A frame's last byte is its CRC field and its end bit (R130). -/
theorem frameLast_fields (crc : BitVec 7) :
    (crc ++ (1#1)).extractLsb' 0 1 = 1#1 ∧ (crc ++ (1#1)).extractLsb' 1 7 = crc :=
  ⟨BitVec.extractLsb'_append_eq_right, BitVec.extractLsb'_append_eq_left⟩

theorem decodeFrame_frameBytes (idx : BitVec 6) (arg : U32) (crc : BitVec 7) (rest : List Byte) :
    decodeFrame (frameBytes idx arg crc ++ rest) = (decodeCommand idx arg crc >>= fun i => .ok (i, rest)) := by
  obtain ⟨hstart, hidx⟩ := frameFirst_fields idx
  obtain ⟨hend, hcrc⟩ := frameLast_fields crc
  simp [frameBytes, frameHead, be32Bytes, decodeFrame, hstart, hidx, hend, hcrc, pack32_byteOf]

/-- A frame that decodes is the frame of its fields. -/
theorem decodeFrame_eq_ok {b rest : List Byte} {i : Instr} (h : decodeFrame b = .ok (i, rest)) :
    ∃ idx arg crc, decodeCommand idx arg crc = .ok i ∧ b = frameBytes idx arg crc ++ rest := by
  unfold decodeFrame at h
  split at h
  case h_2 => cases h
  next f0 f1 f2 f3 f4 f5 tail =>
    split at h
    · cases h
    next hstart =>
    split at h
    · cases h
    next hend =>
    obtain ⟨j, hj, hok⟩ := Machine.bind_eq_ok h
    obtain ⟨rfl, rfl⟩ := Prod.mk.inj (Except.ok.inj hok)
    refine ⟨_, _, _, hj, ?_⟩
    have hfirst : (0b01#2) ++ f0.extractLsb' 0 6 = f0 := by
      rw [← not_not.mp hstart]; exact BitVec.extractLsb'_append_extractLsb'
    have hlast : f5.extractLsb' 1 7 ++ (1#1) = f5 := by
      rw [← not_not.mp hend]; exact BitVec.extractLsb'_append_extractLsb'
    simp only [frameBytes, frameHead, hfirst, hlast, be32Bytes_pack32, List.cons_append, List.nil_append]

theorem encode_of_commandOf {i : Instr} {idx : BitVec 6} {arg : U32} {crc : BitVec 7} (h : commandOf i = some (idx, arg, crc)) :
    encode i = frameBytes idx arg crc := by
  cases i <;> simp only [commandOf, Option.some.injEq, Prod.mk.injEq, reduceCtorEq] at h <;> obtain ⟨rfl, rfl, rfl⟩ := h <;> rfl

/-- CMD59's argument has one bit, and it is read back (R132). -/
theorem cmd59Argument_fields (u : BitVec 1) :
    (u.setWidth 32 : U32).extractLsb' 1 31 = 0 ∧ (u.setWidth 32 : U32).extractLsb' 0 1 = u := by
  revert u; decide

theorem cmd59Argument_of_high {arg : U32} (h : arg.extractLsb' 1 31 = 0) : (arg.extractLsb' 0 1).setWidth 32 = arg := by
  apply BitVec.eq_of_toNat_eq
  have hhigh : arg.toNat / 2 % 2 ^ 31 = 0 := by
    simpa [BitVec.extractLsb'_toNat, Nat.shiftRight_eq_div_pow] using congrArg BitVec.toNat h
  simp [BitVec.extractLsb'_toNat]
  omega

theorem decodeCommand_of_commandOf {i : Instr} {idx : BitVec 6} {arg : U32} {crc : BitVec 7}
    (h : commandOf i = some (idx, arg, crc)) : decodeCommand idx arg crc = .ok i := by
  cases i <;> simp only [commandOf, Option.some.injEq, Prod.mk.injEq, reduceCtorEq] at h <;> obtain ⟨rfl, rfl, rfl⟩ := h
  case cmd59 u crc =>
    obtain ⟨hhigh, hlow⟩ := cmd59Argument_fields u
    simp [decodeCommand, hhigh, hlow]
  all_goals simp [decodeCommand]

/-- A command that decodes has the index and the argument R131 gives it. -/
theorem commandOf_of_decodeCommand {i : Instr} {idx : BitVec 6} {arg : U32} {crc : BitVec 7}
    (h : decodeCommand idx arg crc = .ok i) : commandOf i = some (idx, arg, crc) := by
  have hidx : idx = BitVec.ofNat 6 idx.toNat := by simp
  revert h
  unfold decodeCommand
  split
  case h_16 => intro h; cases h
  case h_15 =>
    rename_i hnat
    rw [hnat] at hidx
    subst hidx
    intro h
    split at h
    next hhigh => cases h; rw [commandOf, cmd59Argument_of_high hhigh]; rfl
    next => cases h
  all_goals
    rename_i hnat
    rw [hnat] at hidx
    subst hidx
    simp only [ite_eq_iff, Except.ok.injEq, reduceCtorEq, and_false, or_false, and_imp]
    intros
    subst_vars
    rfl

theorem decode_frame_encode (i : Instr) (h : (commandOf i).isSome = true) (rest : List Byte) :
    decode .frame (encode i ++ rest) = .ok (i, rest) := by
  obtain ⟨⟨idx, arg, crc⟩, hc⟩ := Option.isSome_iff_exists.mp h
  rw [encode_of_commandOf hc]
  exact (decodeFrame_frameBytes idx arg crc rest).trans (by rw [decodeCommand_of_commandOf hc]; rfl)

/-! ### Responses -/

/-- R7's word is its fields side by side (R137). -/
theorem r7_fields (other : BitVec 20) (voltage : BitVec 4) (echo : Byte) :
    (other ++ voltage ++ echo).extractLsb' 12 20 = other ∧ (other ++ voltage ++ echo).extractLsb' 8 4 = voltage ∧
    (other ++ voltage ++ echo).extractLsb' 0 8 = echo := by
  refine ⟨?_, ?_, BitVec.extractLsb'_append_eq_right⟩
  · exact (BitVec.extractLsb'_append_eq_of_le (by decide)).trans BitVec.extractLsb'_append_eq_left
  · exact (BitVec.extractLsb'_append_eq_of_le (by decide)).trans BitVec.extractLsb'_append_eq_right

theorem r7_word (w : U32) : w.extractLsb' 12 20 ++ w.extractLsb' 8 4 ++ w.extractLsb' 0 8 = w := by
  apply BitVec.eq_of_toNat_eq
  simp only [toNat_append_eq, BitVec.extractLsb'_toNat, Nat.shiftRight_eq_div_pow]
  omega

theorem decodeResponse_encode (i : Instr) (t : RType) (h : formatOf i = .resp t) (rest : List Byte) :
    decodeResponse t (encode i ++ rest) = .ok (i, rest) := by
  cases i <;> cases h
  case r7 status other voltage echo =>
    obtain ⟨hother, hvoltage, hecho⟩ := r7_fields other voltage echo
    simp only [decodeResponse, encode, reads_getStatus.bind_eq_ok, reads_getBe32.bind_eq_ok]
    exact ⟨status, _, rfl, _, rest, rfl, by rw [hother, hvoltage, hecho]⟩
  all_goals
    simp [decodeResponse, encode, reads_getStatus.bind_eq_ok, reads_getBe32.bind_eq_ok, reads_get8.bind_eq_ok, put8]

theorem decodeResponse_eq_ok {t : RType} {b rest : List Byte} {i : Instr} (h : decodeResponse t b = .ok (i, rest)) :
    b = encode i ++ rest := by
  obtain ⟨status, b, rfl, htail⟩ := (reads_getStatus.bind_eq_ok _ _ _).mp h
  clear h
  revert htail
  cases t
  all_goals
    simp only [reads_get8.bind_eq_ok, reads_getBe32.bind_eq_ok, Except.ok.injEq, Prod.mk.injEq, forall_exists_index, and_imp]
    intros
    subst_vars
    simp [encode, put8, r7_word]

/-! ### Tokens -/

theorem decodeReadToken_encode (i : Instr) (h : formatOf i = .readToken) (rest : List Byte) :
    decodeReadToken (encode i ++ rest) = .ok (i, rest) := by
  cases i <;> cases h
  case tokStart => rfl
  case dataError e =>
    have hfields : (0#4) ++ e ≠ Config.tokStart ∧ ((0#4) ++ e).extractLsb' 4 4 = 0 ∧ ((0#4) ++ e).extractLsb' 0 4 = e := by
      revert e; decide
    obtain ⟨hstart, hhigh, hlow⟩ := hfields
    simp [encode, decodeReadToken, hstart, hhigh, hlow]

theorem decodeReadToken_eq_ok {b rest : List Byte} {i : Instr} (h : decodeReadToken b = .ok (i, rest)) :
    b = encode i ++ rest := by
  unfold decodeReadToken at h
  split at h
  case h_2 => cases h
  next b tail =>
    split at h
    next hstart =>
      obtain ⟨rfl, rfl⟩ := Prod.mk.inj (Except.ok.inj h)
      rw [hstart]; rfl
    split at h
    next hhigh =>
      obtain ⟨rfl, rfl⟩ := Prod.mk.inj (Except.ok.inj h)
      have hb : (0#4) ++ b.extractLsb' 0 4 = b := by
        rw [show (0#4) = b.extractLsb' 4 4 from hhigh.symm]
        exact BitVec.extractLsb'_append_extractLsb'
      simp [encode, hb]
    · cases h

theorem decodeWriteToken_eq_ok {b rest : List Byte} {i : Instr} (h : decodeWriteToken b = .ok (i, rest)) :
    b = encode i ++ rest := by
  unfold decodeWriteToken at h
  split at h
  case h_2 => cases h
  next b tail =>
    split at h
    next htoken =>
      obtain ⟨rfl, rfl⟩ := Prod.mk.inj (Except.ok.inj h)
      rw [htoken]; rfl
    split at h
    next htoken =>
      obtain ⟨rfl, rfl⟩ := Prod.mk.inj (Except.ok.inj h)
      rw [htoken]; rfl
    split at h
    next htoken =>
      obtain ⟨rfl, rfl⟩ := Prod.mk.inj (Except.ok.inj h)
      rw [htoken]; rfl
    · cases h

/-- A data response is its ignored bits, a 0, its status and a 1 (R141). -/
theorem dataResponse_fields (ignored status : BitVec 3) :
    let b : Byte := ignored ++ (0#1) ++ status ++ (1#1)
    (b.getLsbD 0 && !b.getLsbD 4) = true ∧ b.extractLsb' 5 3 = ignored ∧ b.extractLsb' 1 3 = status := by
  revert ignored status; decide

theorem dataResponse_of_fields {b : Byte} (h : (b.getLsbD 0 && !b.getLsbD 4) = true) :
    b.extractLsb' 5 3 ++ (0#1) ++ b.extractLsb' 1 3 ++ (1#1) = b := by
  revert b; decide

theorem decodeDataResponse_eq_ok {b rest : List Byte} {i : Instr} (h : decodeDataResponse b = .ok (i, rest)) :
    b = encode i ++ rest := by
  unfold decodeDataResponse at h
  split at h
  case h_2 => cases h
  next b tail =>
    split at h
    next hfixed =>
      obtain ⟨rfl, rfl⟩ := Prod.mk.inj (Except.ok.inj h)
      exact congrArg (· :: tail) (dataResponse_of_fields hfixed).symm
    · cases h

/-! ### The decoder and the encoder -/

/-- Settles O1, format by format: each place's decoder reads its own words back. -/
theorem decodeEncodeRoundTrip : Obligations.DecodeEncodeRoundTrip := by
  refine ⟨fun i rest => ?_, fun rest => rfl⟩
  cases hf : formatOf i with
  | hostop => exact decodeHost_encode i hf rest
  | frame =>
    refine decode_frame_encode i ?_ rest
    cases i <;> first | rfl | cases hf
  | resp t => exact decodeResponse_encode i t hf rest
  | readToken => exact decodeReadToken_encode i hf rest
  | writeToken => cases i <;> cases hf <;> rfl
  | dataResp =>
    cases i <;> cases hf
    next ignored status =>
      obtain ⟨hfixed, hignored, hstatus⟩ := dataResponse_fields ignored status
      simp only [decode, decodeDataResponse, encode, List.cons_append, List.nil_append, hfixed, hignored, hstatus, if_true]

/-- Settles O2: in every format the fields a word decodes to are all of its bits. -/
theorem decodedWordIsEncoding : Obligations.DecodedWordIsEncoding := by
  intro f b rest i h
  cases f with
  | hostop =>
    cases b with
    | nil => cases h
    | cons code b => exact decodeHostOp_eq_ok h
  | frame =>
    obtain ⟨idx, arg, crc, hcommand, rfl⟩ := decodeFrame_eq_ok h
    rw [encode_of_commandOf (commandOf_of_decodeCommand hcommand)]
  | resp t => exact decodeResponse_eq_ok h
  | readToken => exact decodeReadToken_eq_ok h
  | writeToken => exact decodeWriteToken_eq_ok h
  | dataResp => exact decodeDataResponse_eq_ok h

/-- Settles O4: each word is decoded by running the decoder on it. -/
theorem specWordsDecode : Obligations.SpecWordsDecode := by
  refine ⟨rfl, rfl, rfl, rfl, rfl, rfl, rfl, rfl, rfl, rfl, rfl, rfl, rfl, rfl⟩

end Sys2Proof
end

section
/-! What the shared operations and the handlers of the SD engine may change (42_block_io.md, 41_card_init.md, 60_exceptions.md): one relation between
the state before a handler and the state after it, and the handlers one by one. -/

namespace Sys2Proof.Machine

/-! ### The canonical form of the three spaces -/

theorem memCanonical_iff (s : State) : memCanonical s = true ↔ ∀ q, (s.mem.space q).wf = true := by
  unfold memCanonical
  constructor
  · intro h q
    simp only [Bool.and_eq_true] at h
    obtain ⟨⟨hhost, hlog⟩, himg⟩ := h
    cases q <;> assumption
  · intro h
    simp only [Bool.and_eq_true]
    exact ⟨⟨h .host, h .logbuf⟩, h .sbimg⟩

theorem memCanonical_congr {s t : State} (h : t.mem = s.mem) : memCanonical t = memCanonical s := by
  unfold memCanonical
  rw [h]

theorem memCanonical_poke {s : State} (sp : Space) (a : Nat) (bs : List Byte) (h : memCanonical s = true) :
    memCanonical (s.poke sp a bs) = true :=
  (memCanonical_iff _).mpr fun q => State.poke_wf s sp q a bs ((memCanonical_iff s).mp h)

/-! ### The relation -/

/-- What a handler of the SD engine leaves: the parameters, the log engine and the shared fields as they are, the memories canonical,
and of the environment only `Done()` and the requested callback. An operation that was valid may end, its own callback requested. -/
structure SdRun (s t : State) : Prop where
  cfg : t.cfg = s.cfg
  lg : t.lg = s.lg
  sh : t.sh = s.sh
  mem : memCanonical s = true → memCanonical t = true
  env : t.env = { s.env with done := t.env.done, cbQueue := t.env.cbQueue }
  cb : t.op.cb = s.op.cb
  queue : (t.op.valid = s.op.valid ∧ t.env.cbQueue = s.env.cbQueue) ∨
    (s.op.valid = true ∧ t.op.valid = false ∧ ∃ c, t.env.cbQueue = some c ∧ c.cb = s.op.cb)

theorem SdRun.refl (s : State) : SdRun s s :=
  ⟨rfl, rfl, rfl, id, rfl, rfl, .inl ⟨rfl, rfl⟩⟩

theorem SdRun.trans {s t u : State} (hst : SdRun s t) (htu : SdRun t u) : SdRun s u where
  cfg := htu.cfg.trans hst.cfg
  lg := htu.lg.trans hst.lg
  sh := htu.sh.trans hst.sh
  mem := fun h => htu.mem (hst.mem h)
  env := by rw [htu.env, hst.env]
  cb := htu.cb.trans hst.cb
  queue := by
    rcases hst.queue with ⟨hv, hq⟩ | ⟨hv, hv', hq⟩
    · rcases htu.queue with ⟨hv2, hq2⟩ | ⟨hv2, hv2', c, hc, hcb⟩
      · exact .inl ⟨hv2.trans hv, hq2.trans hq⟩
      · exact .inr ⟨hv.symm.trans hv2, hv2', c, hc, hcb.trans hst.cb⟩
    · rcases htu.queue with ⟨hv2, hq2⟩ | ⟨hv2, _, _⟩
      · exact .inr ⟨hv, hv2.trans hv', by rw [hq2]; exact hq⟩
      · rw [hv'] at hv2; cases hv2

/-- A run that changes the SD engine's registers only. -/
theorem SdRun.of_sd {s t : State} (h : t = { s with sd := t.sd }) : SdRun s t := by
  rw [h]
  exact ⟨rfl, rfl, rfl, id, rfl, rfl, .inl ⟨rfl, rfl⟩⟩

theorem SdRun.onSd (s : State) (f : Sd → Sd) : SdRun s (s.onSd f) := .of_sd rfl

/-- An update of the operation's registers that keeps its validity and its callback. -/
theorem SdRun.onOp (s : State) (f : Op → Op) (hcb : (f s.op).cb = s.op.cb) (hvalid : (f s.op).valid = s.op.valid) :
    SdRun s (s.onOp f) :=
  ⟨rfl, rfl, rfl, id, rfl, hcb, .inl ⟨hvalid, rfl⟩⟩

theorem SdRun.submitted (out : List Byte) (role : XferRole) (s : State) : SdRun s (submitted out role s) :=
  ⟨rfl, rfl, rfl, id, rfl, rfl, .inl ⟨rfl, rfl⟩⟩

theorem SdRun.poke (s : State) (sp : Space) (a : Nat) (bs : List Byte) : SdRun s (s.poke sp a bs) :=
  ⟨rfl, rfl, rfl, memCanonical_poke sp a bs, rfl, rfl, .inl ⟨rfl, rfl⟩⟩

/-- `finish` ends an operation that is valid. -/
theorem SdRun.finish {s : State} (hvalid : s.op.valid = true) (success : Bool) (dest : SdState) :
    SdRun s (finish success dest s) :=
  ⟨rfl, rfl, rfl, id, rfl, rfl, .inr ⟨hvalid, rfl, _, rfl, rfl⟩⟩

/-! ### Searches, transmissions and the command sub-machine -/

theorem sdRun_submit {out : List Byte} {role : XferRole} {s t : State} (h : submit out role s = some t) : SdRun s t := by
  rcases submit_cases out role s with ⟨_, e⟩ | ⟨_, e⟩
  · rw [e] at h; cases h; exact .submitted out role s
  · rw [e] at h; cases h

theorem sdRun_searchStep {p : Byte → Bool} {w : U32} {s t : State} {r : Search} (h : searchStep p w s = (r, t)) : SdRun s t := by
  rcases searchStep_cases p w s with ⟨b, skip, rest, _, e⟩ | ⟨skip, rest, _, ⟨_, e⟩ | ⟨_, _, e⟩ | ⟨_, _, e⟩⟩ <;> rw [e] at h <;>
    cases h
  case inr.inr.inl => exact (SdRun.onSd _ _).trans (.submitted _ _ _)
  all_goals exact .of_sd rfl

theorem sdRun_transmit {next : State → State} (hnext : ∀ s, SdRun s (next s)) (out : List Byte) (s : State) :
    SdRun s (transmit out next s) := by
  rcases transmit_cases out next s with ⟨_, e⟩ | ⟨_, e⟩ <;> rw [e]
  · exact ((SdRun.onSd _ _).trans (.submitted _ _ _)).trans (hnext _)
  · exact .of_sd rfl

theorem sdRun_startCmd (idx : BitVec 6) (arg : U32) (rtype : RType) (preBusy : Bool) (s : State) :
    SdRun s (startCmd idx arg rtype preBusy s) := by
  unfold startCmd
  dsimp only
  split
  · exact .of_sd rfl
  · split <;> exact .of_sd rfl

theorem sdRun_cmdOpen (s : State) : SdRun s (cmdOpen s).2 := by
  rcases openSession_cases s with ⟨_, e⟩ | ⟨_, e⟩ <;> simp only [cmdOpen, e]
  · split
    · exact .of_sd rfl
    · exact .of_sd rfl
  · exact .refl s

theorem sdRun_cmdBusy (s : State) : SdRun s (cmdBusy s).2 := by
  unfold cmdBusy
  split <;> rename_i hsearch
  · exact (sdRun_searchStep hsearch).trans (.of_sd rfl)
  · exact (sdRun_searchStep hsearch).trans (.of_sd rfl)
  · exact sdRun_searchStep hsearch

theorem sdRun_cmdSend (s : State) : SdRun s (cmdSend s).2 := sdRun_transmit (fun _ => .onSd _ _) _ s

theorem sdRun_cmdResp (s : State) : SdRun s (cmdResp s).2 := by
  unfold cmdResp
  dsimp only
  split
  · split <;> rename_i hsearch
    · exact (sdRun_searchStep hsearch).trans (.of_sd rfl)
    · exact (sdRun_searchStep hsearch).trans (.of_sd rfl)
    · exact sdRun_searchStep hsearch
  · split
    · split <;> rename_i hsubmit
      · exact (SdRun.onSd _ _).trans (sdRun_submit hsubmit)
      · exact .of_sd rfl
    · exact .of_sd rfl

theorem sdRun_cmdStep (s : State) : SdRun s (cmdStep s).2 := by
  unfold cmdStep
  split
  · exact sdRun_cmdOpen s
  · exact sdRun_cmdBusy s
  · exact .of_sd rfl
  · exact sdRun_cmdSend s
  · exact sdRun_cmdResp s
  · exact .refl s
  · exact .refl s

/-! ### The exception entry -/

theorem sdRun_initFail (first : InitStep) (e : Err) (s : State) : SdRun s (initFail first e s) := by
  unfold initFail
  dsimp only
  split <;> exact .of_sd rfl

/-- An operation's first error is kept (R503), as an update of its registers. -/
def keepError (e : Err) (s : State) : State := s.onOp fun o => { o with err := if o.err = .ok then e else o.err }

theorem sdRun_keepError (e : Err) (s : State) : SdRun s (keepError e s) := .onOp _ _ rfl rfl

/-- What an error in a phase that can abort does: the last block ends the operation, another aborts it (R503). -/
def abortTo (p : OpPhase) (s : State) : State :=
  if s.op.count = 1 then finish false .ready s else s.onSd fun d => { d with opPhase := p, cmdPh := .idle }

/-- What an error of an operation leads to, by the phase that raised it (R503). -/
def raiseFrom (p : OpPhase) (s : State) : State :=
  match p with
  | .rdToken => abortTo .rdAbort s
  | .rdData =>
    if finalOfMany s.op then s.onSd fun d => { d with opPhase := .rdStop, tAnchor := s.env.now } else abortTo .rdAbort s
  | .wrBusy | .wrDresp | .wrStopBusy => abortTo .wrAbort s
  | .rdCmd | .wrCmd | .wrFinalBusy | .wrStopPostBusy | .wrStatus => finish false .ready s
  | .none | .rdStop | .rdAbort | .wrSend | .wrStopToken | .wrAbort => s

/-- An error in initialisation fails the step at CMD9 (R503, R243). -/
theorem raise_of_init {s : State} (h : s.sd.state = .init) (e : Err) :
    raise e s = initFail .cmd9 e ((endCsdRead s).onSd fun d => { d with rxRetain := [], rxSkip := false }) := by
  unfold raise
  rw [if_pos h]

/-- An error of an operation is kept, then its phase decides (R503). -/
theorem raise_of_ne_init {s : State} (h : s.sd.state ≠ .init) (e : Err) :
    raise e s = raiseFrom s.sd.opPhase (keepError e s) := by
  unfold raise
  rw [if_neg h]
  show _ = raiseFrom (keepError e s).sd.opPhase (keepError e s)
  cases hphase : s.sd.opPhase <;> simp only [raiseFrom, keepError, State.onOp_sd, hphase] <;> rfl

theorem sdRun_abortTo {s : State} (hvalid : s.op.valid = true) (p : OpPhase) : SdRun s (abortTo p s) := by
  unfold abortTo
  split
  · exact .finish (by exact hvalid) _ _
  · exact .of_sd rfl

theorem sdRun_raiseFrom {s : State} (hvalid : s.op.valid = true) (p : OpPhase) : SdRun s (raiseFrom p s) := by
  cases p
  case rdData =>
    simp only [raiseFrom]
    split
    · exact .of_sd rfl
    · exact sdRun_abortTo hvalid _
  case rdToken | wrBusy | wrDresp | wrStopBusy => exact sdRun_abortTo hvalid _
  case rdCmd | wrCmd | wrFinalBusy | wrStopPostBusy | wrStatus => exact .finish (by exact hvalid) _ _
  case none | rdStop | rdAbort | wrSend | wrStopToken | wrAbort => exact .refl s

/-- A handler may end an operation only outside initialisation, where the operation is valid. -/
def mayEnd (s : State) : Prop := s.sd.state = .init ∨ s.op.valid = true

/-- `raise` ends an operation only outside initialisation, where its phase is a valid operation's. -/
theorem sdRun_raise {s : State} (h : mayEnd s) (e : Err) : SdRun s (raise e s) := by
  by_cases hinit : s.sd.state = .init
  · rw [raise_of_init hinit]
    exact SdRun.trans (.of_sd rfl) (sdRun_initFail _ _ _)
  · rw [raise_of_ne_init hinit]
    have hvalid : (keepError e s).op.valid = true := h.resolve_left hinit
    exact (sdRun_keepError e s).trans (sdRun_raiseFrom hvalid _)

/-! ### Received bytes -/

/-- The count and the CRC of a received byte (R286). -/
def countByte (b : Byte) (s : State) : State := s.onOp fun o => { o with crc := crc16UpdateByte o.crc b, byte := o.byte + 1 }

/-- The CSD read is under way: its bytes go to `CSD_BUF` (R243). -/
abbrev readsCsd (s : State) : Prop := s.sd.initStep = .csd ∧ s.sd.state = .init

/-- A byte of the CSD. -/
theorem takeByte_csd {s : State} (h : readsCsd s) (b : Byte) : takeByte b s = .ok (countByte b
    (if s.op.byte.toNat < s.op.len.toNat then s.onSd fun d => { d with csdBuf := d.csdBuf.setIfInBounds s.op.byte.toNat b }
      else s)) := by
  unfold takeByte
  dsimp only
  rw [if_pos h]
  rfl

/-- A byte of no operation has no meaning. -/
theorem takeByte_invalid {s : State} (h : ¬readsCsd s) (hvalid : s.op.valid = false) (b : Byte) :
    takeByte b s = .error (.fault .meaninglessRead) := by
  unfold takeByte
  dsimp only
  rw [if_neg h, hvalid]
  rfl

/-- A payload byte of an operation is stored. -/
theorem takeByte_payload {s : State} (h : ¬readsCsd s) (hvalid : s.op.valid = true) (hlen : s.op.byte.toNat < s.op.len.toNat)
    (b : Byte) :
    takeByte b s = (writeBytes s s.op.buf.space (blockAddress s.op s.op.byte.toNat) [b]).map (countByte b) := by
  unfold takeByte
  dsimp only
  rw [if_neg h, hvalid, if_neg (by decide), if_pos hlen]
  cases writeBytes s s.op.buf.space (blockAddress s.op s.op.byte.toNat) [b] <;> rfl

/-- A CRC byte of an operation is only counted. -/
theorem takeByte_crc {s : State} (h : ¬readsCsd s) (hvalid : s.op.valid = true) (hlen : ¬s.op.byte.toNat < s.op.len.toNat)
    (b : Byte) : takeByte b s = .ok (countByte b s) := by
  unfold takeByte
  dsimp only
  rw [if_neg h, hvalid, if_neg (by decide), if_neg hlen]
  rfl

/-- What a byte taken leaves: the byte counted, after it went to `CSD_BUF`, to memory or nowhere. -/
theorem takeByte_cases {b : Byte} {s t : State} (h : takeByte b s = .ok t) :
    ∃ u, t = countByte b u ∧
      (u = s ∨ u = (s.onSd fun d => { d with csdBuf := d.csdBuf.setIfInBounds s.op.byte.toNat b }) ∨
        ∃ sp a, u = s.poke sp a [b]) := by
  by_cases hcsd : readsCsd s
  · rw [takeByte_csd hcsd] at h
    cases h
    refine ⟨_, rfl, ?_⟩
    split
    · exact .inr (.inl rfl)
    · exact .inl rfl
  cases hvalid : s.op.valid with
  | false => rw [takeByte_invalid hcsd hvalid] at h; cases h
  | true =>
    by_cases hlen : s.op.byte.toNat < s.op.len.toNat
    · rw [takeByte_payload hcsd hvalid hlen] at h
      cases hw : writeBytes s s.op.buf.space (blockAddress s.op s.op.byte.toNat) [b] with
      | error e => rw [hw] at h; cases h
      | ok u =>
        rw [hw] at h
        cases h
        exact ⟨u, rfl, .inr (.inr ⟨_, _, (writeBytes_ok hw).2⟩)⟩
    · rw [takeByte_crc hcsd hvalid hlen] at h
      cases h
      exact ⟨s, rfl, .inl rfl⟩

theorem sdRun_takeByte {b : Byte} {s t : State} (h : takeByte b s = .ok t) : SdRun s t := by
  obtain ⟨u, rfl, hu⟩ := takeByte_cases h
  refine SdRun.trans ?_ (.onOp u _ rfl rfl)
  rcases hu with rfl | rfl | ⟨sp, a, rfl⟩
  · exact .refl _
  · exact .of_sd rfl
  · exact .poke _ sp a [b]

theorem takeBytes_cons {b : Byte} {bs : List Byte} {s t : State} (h : takeBytes (b :: bs) s = .ok t) :
    ∃ u, takeByte b s = .ok u ∧ takeBytes bs u = .ok t := bind_eq_ok h

theorem sdRun_takeBytes {bs : List Byte} {s t : State} (h : takeBytes bs s = .ok t) : SdRun s t := by
  induction bs generalizing s with
  | nil => cases h; exact .refl _
  | cons b bs ih =>
    obtain ⟨u, hu, ht⟩ := takeBytes_cons h
    exact (sdRun_takeByte hu).trans (ih ht)

/-- What taking bytes leaves alone: the environment, and of the registers all but `CSD_BUF`, the byte count and the CRC. -/
structure Took (s t : State) : Prop where
  sd : t.sd = { s.sd with csdBuf := t.sd.csdBuf }
  op : t.op = { s.op with byte := t.op.byte, crc := t.op.crc }
  env : t.env = s.env

theorem took_takeByte {b : Byte} {s t : State} (h : takeByte b s = .ok t) : Took s t := by
  obtain ⟨u, rfl, hu⟩ := takeByte_cases h
  rcases hu with rfl | rfl | ⟨sp, a, rfl⟩ <;> exact ⟨rfl, rfl, rfl⟩

theorem took_takeBytes {bs : List Byte} {s t : State} (h : takeBytes bs s = .ok t) : Took s t := by
  induction bs generalizing s with
  | nil => cases h; exact ⟨rfl, rfl, rfl⟩
  | cons b bs ih =>
    obtain ⟨u, hu, ht⟩ := takeBytes_cons h
    have hfirst := took_takeByte hu
    have hrest := ih ht
    exact ⟨by rw [hrest.sd, hfirst.sd], by rw [hrest.op, hfirst.op], hrest.env.trans hfirst.env⟩

theorem mayEnd_took {s t : State} (h : Took s t) (hs : mayEnd s) : mayEnd t := by
  unfold mayEnd
  rw [h.sd, h.op]
  exact hs

/-! ### Delivery -/

/-- The transaction is cleared; the anchor restarts unless it was a search (R278). -/
def delivered (s : State) : State :=
  s.onSd fun d => { d with xferPending := false, tAnchor := if d.xferRole = .search then d.tAnchor else s.env.now }

/-- The in-bytes of a search are retained. -/
theorem deliver_search {s : State} (h : s.sd.xferRole = .search) :
    deliver s = .ok (delivered (s.onSd fun d => { d with rxRetain := d.rxRetain ++ s.env.inBytes })) := by
  unfold deliver
  rw [h]
  rfl

/-- The in-bytes of a frame or a packet are dropped. -/
theorem deliver_echo {s : State} (h : s.sd.xferRole = .echo) : deliver s = .ok (delivered s) := by
  unfold deliver
  rw [h]
  rfl

/-- The in-bytes of a receive are taken. -/
theorem deliver_payload {s : State} (h : s.sd.xferRole = .payload ∨ s.sd.xferRole = .payloadStop) :
    deliver s = (takeBytes s.env.inBytes s).map delivered := by
  unfold deliver
  rcases h with h | h <;> rw [h] <;> cases takeBytes s.env.inBytes s <;> rfl

/-- What delivery can do, by the transaction's role. -/
theorem deliver_cases {s t : State} (h : deliver s = .ok t) :
    (s.sd.xferRole = .search ∧ t = delivered (s.onSd fun d => { d with rxRetain := d.rxRetain ++ s.env.inBytes })) ∨
    (s.sd.xferRole = .echo ∧ t = delivered s) ∨
    ((s.sd.xferRole = .payload ∨ s.sd.xferRole = .payloadStop) ∧
      ∃ u, takeBytes s.env.inBytes s = .ok u ∧ t = delivered u) := by
  cases hrole : s.sd.xferRole with
  | search => rw [deliver_search hrole] at h; cases h; exact .inl ⟨rfl, rfl⟩
  | echo => rw [deliver_echo hrole] at h; cases h; exact .inr (.inl ⟨rfl, rfl⟩)
  | payload | payloadStop =>
    rw [deliver_payload (by simp [hrole])] at h
    cases ht : takeBytes s.env.inBytes s with
    | error e => rw [ht] at h; cases h
    | ok u => rw [ht] at h; cases h; exact .inr (.inr ⟨by simp, u, rfl, rfl⟩)

theorem sdRun_deliver {s t : State} (h : deliver s = .ok t) : SdRun s t := by
  rcases deliver_cases h with ⟨_, rfl⟩ | ⟨_, rfl⟩ | ⟨_, u, hu, rfl⟩
  · exact .of_sd rfl
  · exact .of_sd rfl
  · exact (sdRun_takeBytes hu).trans (.of_sd rfl)

/-! ### The phases of a read -/

/-- A search leaves everything but the byte stream and the transaction. -/
theorem searchStep_frame {p : Byte → Bool} {w : U32} {s t : State} {r : Search} (h : searchStep p w s = (r, t)) :
    t.op = s.op ∧ t.sd.state = s.sd.state ∧ t.sd.opPhase = s.sd.opPhase := by
  rcases searchStep_cases p w s with ⟨b, skip, rest, _, e⟩ | ⟨skip, rest, _, ⟨_, e⟩ | ⟨_, _, e⟩ | ⟨_, _, e⟩⟩ <;> rw [e] at h <;>
    cases h <;> exact ⟨rfl, rfl, rfl⟩

theorem mayEnd_searchStep {p : Byte → Bool} {w : U32} {s t : State} {r : Search} (h : searchStep p w s = (r, t))
    (hs : mayEnd s) : mayEnd t := by
  obtain ⟨hop, hstate, _⟩ := searchStep_frame h
  unfold mayEnd
  rw [hop, hstate]
  exact hs

theorem sdRun_opCommandPhase {single multi : BitVec 6} {accepted : State → State} (haccepted : ∀ s, SdRun s (accepted s))
    {s : State} (hs : mayEnd s) : SdRun s (opCommandPhase single multi accepted s).2 := by
  have hended : SdRun s (s.onSd fun d => { d with cmdPh := .idle }) := .of_sd rfl
  have hidle : mayEnd (s.onSd fun d => { d with cmdPh := .idle }) := hs
  unfold opCommandPhase
  split
  case h_1 => exact sdRun_startCmd _ _ _ _ s
  case h_2 =>
    dsimp only
    split
    · exact hended.trans (sdRun_raise hidle _)
    · exact hended.trans (sdRun_raise hidle _)
    · split
      · exact hended.trans (haccepted _)
      · exact hended.trans (sdRun_raise hidle _)
  all_goals exact sdRun_cmdStep s

theorem sdRun_rdCmd {s : State} (hs : mayEnd s) : SdRun s (rdCmd s).2 :=
  sdRun_opCommandPhase (fun t => (SdRun.onOp t (fun o => { o with idx := 0 }) rfl rfl).trans (.of_sd rfl)) hs

theorem sdRun_rdToken {s : State} (hs : mayEnd s) : SdRun s (rdToken s).2 := by
  unfold rdToken
  split <;> rename_i t hsearch
  · split
    · exact (sdRun_searchStep hsearch).trans ((SdRun.onOp t (fun o => { o with byte := 0, crc := 0 }) rfl rfl).trans (.of_sd rfl))
    · exact (sdRun_searchStep hsearch).trans (sdRun_raise (mayEnd_searchStep hsearch hs) _)
  · exact (sdRun_searchStep hsearch).trans (sdRun_raise (mayEnd_searchStep hsearch hs) _)
  · exact sdRun_searchStep hsearch

theorem sdRun_csdDecode (s : State) : SdRun s (csdDecode s) := by
  unfold csdDecode
  split <;> exact .of_sd rfl

theorem sdRun_blockReceived {s : State} (hs : mayEnd s) : SdRun s (blockReceived s) := by
  unfold blockReceived
  split
  · exact SdRun.trans (.of_sd rfl) (sdRun_csdDecode _)
  next hinit =>
    dsimp only
    have hdone : SdRun s (s.onOp fun o => { o with done := o.idx + 1 }) := .onOp _ _ rfl rfl
    have hvalid : s.op.valid = true := hs.resolve_left hinit
    refine hdone.trans ?_
    split
    · exact (SdRun.onOp _ (fun o => { o with idx := o.idx + 1 }) rfl rfl).trans (.of_sd rfl)
    · split
      · exact .finish (by exact hvalid) _ _
      · exact .of_sd rfl

/-- `RD_DATA` with `left` bytes of the block still to come, after the retained ones were taken (R286, R287). -/
def receiveRest (left : Nat) (s : State) : Ctl × State :=
  if left = 0 then
    if s.cfg.useCrc && s.op.crc != 0 then (.again, raise .readCrc s) else (.again, blockReceived s)
  else if s.sd.state == .read && finalOfMany s.op then
    match submit (receiveOut true left) .payloadStop s with
    | none => (.yield, s)
    | some s => (.yield, s.onSd fun d => { d with rxSkip := true })
  else
    match submit (receiveOut false left) .payload s with
    | none => (.yield, s)
    | some s => (.yield, s)

/-- `RD_DATA` takes the retained bytes of the block, then receives the rest (R286). -/
theorem rdData_eq (s : State) :
    rdData s = (takeBytes (s.sd.rxRetain.take (blockNeed s.op))
      (s.onSd fun d => { d with rxRetain := d.rxRetain.drop (blockNeed s.op) })).map
        (receiveRest (blockNeed s.op - (s.sd.rxRetain.take (blockNeed s.op)).length)) := by
  unfold rdData
  dsimp only
  generalize takeBytes _ _ = r
  cases r with
  | error e => rfl
  | ok u =>
    show _ = Except.ok (receiveRest _ u)
    simp only [bind, Except.bind, receiveRest]
    split
    · split <;> rfl
    · cases u.sd.state == .read && finalOfMany u.op
      · simp only [Bool.false_eq_true, if_false]
        cases submit (receiveOut false _) .payload u <;> rfl
      · simp only [if_true]
        cases submit (receiveOut true _) .payloadStop u <;> rfl

theorem sdRun_receiveRest {s : State} (hs : mayEnd s) (left : Nat) : SdRun s (receiveRest left s).2 := by
  unfold receiveRest
  split
  · split
    · exact sdRun_raise hs _
    · exact sdRun_blockReceived hs
  · split <;> split <;> rename_i hsubmit
    · exact .refl s
    · exact (sdRun_submit hsubmit).trans (.of_sd rfl)
    · exact .refl s
    · exact sdRun_submit hsubmit

theorem sdRun_rdData {s : State} {r : Ctl × State} (h : rdData s = .ok r) (hs : mayEnd s) : SdRun s r.2 := by
  rw [rdData_eq] at h
  cases htake : takeBytes (s.sd.rxRetain.take (blockNeed s.op))
      (s.onSd fun d => { d with rxRetain := d.rxRetain.drop (blockNeed s.op) }) with
  | error e => rw [htake] at h; cases h
  | ok u =>
    rw [htake] at h
    have hdropped : SdRun s u := SdRun.trans (.of_sd rfl) (sdRun_takeBytes htake)
    have hrest := sdRun_receiveRest (mayEnd_took (took_takeBytes htake) hs)
      (blockNeed s.op - (s.sd.rxRetain.take (blockNeed s.op)).length)
    cases h
    exact hdropped.trans hrest

theorem sdRun_rdStop {s : State} (hvalid : s.op.valid = true) : SdRun s (rdStop s).2 := by
  unfold rdStop
  split <;> rename_i t hsearch
  all_goals have hv : t.op.valid = true := (congrArg Op.valid (searchStep_frame hsearch).1).trans hvalid
  · exact (sdRun_searchStep hsearch).trans (.finish hv _ _)
  · exact (sdRun_searchStep hsearch).trans
      ((sdRun_keepError .cmdTimeout t).trans (.finish (by exact hv) _ _))
  · exact sdRun_searchStep hsearch

theorem sdRun_abortPhase {s : State} (hvalid : s.op.valid = true) : SdRun s (abortPhase s).2 := by
  unfold abortPhase
  split
  case h_1 => exact sdRun_startCmd _ _ _ _ s
  case h_2 => exact SdRun.trans (.of_sd rfl) (.finish hvalid _ _)
  all_goals exact sdRun_cmdStep s

/-! ### The phases of a write -/

theorem sdRun_wrCmd {s : State} (hs : mayEnd s) : SdRun s (wrCmd s).2 :=
  sdRun_opCommandPhase (fun t => (SdRun.onOp t (fun o => { o with idx := 0 }) rfl rfl).trans (.of_sd rfl)) hs

theorem sdRun_writeBusy {next : State → State} (hnext : ∀ s : State, s.op.valid = true → SdRun s (next s)) {s : State}
    (hvalid : s.op.valid = true) : SdRun s (writeBusy next s).2 := by
  unfold writeBusy
  split <;> rename_i t hsearch
  · exact (sdRun_searchStep hsearch).trans (hnext _ ((searchStep_frame hsearch).1 ▸ hvalid))
  · exact (sdRun_searchStep hsearch).trans (sdRun_raise (mayEnd_searchStep hsearch (.inr hvalid)) _)
  · exact sdRun_searchStep hsearch

theorem sdRun_wrSend {s : State} {r : Ctl × State} (h : wrSend s = .ok r) : SdRun s r.2 := by
  unfold wrSend at h
  split at h
  · cases h
  · obtain ⟨payload, _, hok⟩ := bind_eq_ok h
    cases hok
    exact sdRun_transmit (fun _ => .of_sd rfl) _ s

theorem sdRun_blockAccepted (s : State) : SdRun s (blockAccepted s) := by
  unfold blockAccepted
  dsimp only
  have hdone : SdRun s (s.onOp fun o => { o with done := o.idx + 1 }) := .onOp _ _ rfl rfl
  split
  · exact (hdone.trans (.onOp _ (fun o => { o with idx := o.idx + 1 }) rfl rfl)).trans (.of_sd rfl)
  · exact hdone.trans (.of_sd rfl)

theorem sdRun_wrDresp {s : State} (hvalid : s.op.valid = true) : SdRun s (wrDresp s).2 := by
  unfold wrDresp
  split <;> rename_i t hsearch
  all_goals have hend : mayEnd t := mayEnd_searchStep hsearch (.inr hvalid)
  · split
    · exact (sdRun_searchStep hsearch).trans (sdRun_blockAccepted t)
    · split
      · exact (sdRun_searchStep hsearch).trans (sdRun_raise hend _)
      · split <;> exact (sdRun_searchStep hsearch).trans (sdRun_raise hend _)
  · exact (sdRun_searchStep hsearch).trans (sdRun_raise hend _)
  · exact sdRun_searchStep hsearch

theorem sdRun_wrStopToken (s : State) : SdRun s (wrStopToken s).2 := sdRun_transmit (fun _ => .of_sd rfl) _ s

theorem sdRun_wrStatus {s : State} (hvalid : s.op.valid = true) : SdRun s (wrStatus s).2 := by
  have hended : SdRun s (s.onSd fun d => { d with cmdPh := .idle }) := .of_sd rfl
  have hend : mayEnd (s.onSd fun d => { d with cmdPh := .idle }) := .inr hvalid
  unfold wrStatus
  split
  case h_1 => exact sdRun_startCmd _ _ _ _ s
  case h_2 =>
    dsimp only
    split
    · exact hended.trans (sdRun_raise hend _)
    · split
      · exact hended.trans (.finish (by exact hvalid) _ _)
      · exact hended.trans (sdRun_raise hend _)
  all_goals exact sdRun_cmdStep s

theorem sdRun_readHandler {s : State} {r : Ctl × State} (h : readHandler s = .ok r) (hvalid : s.op.valid = true) : SdRun s r.2 := by
  unfold readHandler at h
  split at h
  case h_1 => cases h; exact sdRun_rdCmd (.inr hvalid)
  case h_2 => cases h; exact sdRun_rdToken (.inr hvalid)
  case h_3 => exact sdRun_rdData h (.inr hvalid)
  case h_4 => cases h; exact sdRun_rdStop hvalid
  case h_5 => cases h; exact sdRun_abortPhase hvalid
  all_goals cases h

theorem sdRun_writeHandler {s : State} {r : Ctl × State} (h : writeHandler s = .ok r) (hvalid : s.op.valid = true) :
    SdRun s r.2 := by
  unfold writeHandler at h
  split at h
  case h_1 => cases h; exact sdRun_wrCmd (.inr hvalid)
  case h_2 => cases h; exact sdRun_writeBusy (fun _ _ => .of_sd rfl) hvalid
  case h_3 => exact sdRun_wrSend h
  case h_4 => cases h; exact sdRun_wrDresp hvalid
  case h_5 => cases h; exact sdRun_writeBusy (fun _ hv => .finish hv _ _) hvalid
  case h_6 => cases h; exact sdRun_writeBusy (fun _ _ => .of_sd rfl) hvalid
  case h_7 => cases h; exact sdRun_wrStopToken s
  case h_8 => cases h; exact sdRun_writeBusy (fun _ _ => .of_sd rfl) hvalid
  case h_9 => cases h; exact sdRun_wrStatus hvalid
  case h_10 => cases h; exact sdRun_abortPhase hvalid
  all_goals cases h

/-! ### Initialisation -/

theorem sdRun_initCommand {idx : BitVec 6} {arg : U32} {rtype : RType} {preBusy : Bool} {first : InitStep} {keep : State → Bool}
    {eval : State → State} (heval : ∀ s, SdRun s (eval s)) (s : State) :
    SdRun s (initCommand idx arg rtype preBusy first keep eval s).2 := by
  have hended : SdRun s (s.onSd fun d => { d with session := keep s && d.session, cmdPh := .idle }) := .of_sd rfl
  unfold initCommand
  split
  case h_1 => exact sdRun_startCmd _ _ _ _ s
  case h_2 =>
    dsimp only
    split
    · exact hended.trans (sdRun_initFail _ _ _)
    · exact hended.trans (sdRun_initFail _ _ _)
    · exact hended.trans (heval _)
  all_goals exact sdRun_cmdStep s

theorem sdRun_acceptR1 {good : Byte → Bool} {first : InitStep} {next : State → State} (hnext : ∀ s, SdRun s (next s)) (s : State) :
    SdRun s (acceptR1 good first next s) := by
  unfold acceptR1
  split
  · exact hnext s
  · split
    · exact .of_sd rfl
    · exact sdRun_initFail _ _ _

theorem sdRun_evalCmd0 (s : State) : SdRun s (evalCmd0 s) := by
  unfold evalCmd0
  split
  · exact .of_sd rfl
  · exact sdRun_initFail _ _ _

theorem sdRun_evalCmd8 (s : State) : SdRun s (evalCmd8 s) := by
  unfold evalCmd8
  split
  · exact .of_sd rfl
  · split
    · exact sdRun_initFail _ _ _
    · split
      · exact sdRun_initFail _ _ _
      · exact .of_sd rfl

theorem sdRun_evalInitLoop (again : InitStep) (s : State) : SdRun s (evalInitLoop again s) := by
  unfold evalInitLoop
  split
  · exact .of_sd rfl
  · split
    · split <;> exact .of_sd rfl
    · split
      · exact .of_sd rfl
      · exact sdRun_initFail _ _ _

theorem sdRun_evalCmd58 (s : State) : SdRun s (evalCmd58 s) := by
  refine sdRun_acceptR1 (fun t => ?_) s
  split <;> exact .of_sd rfl

theorem sdRun_evalCmd9 (s : State) : SdRun s (evalCmd9 s) :=
  sdRun_acceptR1 (fun _ => SdRun.trans (.of_sd rfl) (.onOp _ (fun o => { o with len := 16 }) rfl rfl)) s

theorem sdRun_initClocks (s : State) : SdRun s (initClocks s).2 := by
  unfold initClocks
  split <;> rename_i hsubmit
  · exact .refl s
  · exact (sdRun_submit hsubmit).trans (.of_sd rfl)

theorem sdRun_initCsd {s : State} {r : Ctl × State} (h : initCsd s = .ok r) (hs : mayEnd s) : SdRun s r.2 := by
  unfold initCsd at h
  split at h
  case h_1 => cases h; exact sdRun_rdToken hs
  case h_2 => exact sdRun_rdData h hs
  all_goals cases h

theorem sdRun_initHandler {s : State} {r : Ctl × State} (h : initHandler s = .ok r) (hs : mayEnd s) : SdRun s r.2 := by
  unfold initHandler at h
  split at h
  case h_10 => exact sdRun_initCsd h hs
  all_goals cases h
  case h_1 => exact sdRun_initClocks s
  case h_2 => exact sdRun_initCommand sdRun_evalCmd0 s
  case h_3 => exact sdRun_initCommand sdRun_evalCmd8 s
  case h_4 => exact sdRun_initCommand (sdRun_acceptR1 fun _ => .of_sd rfl) s
  case h_5 => exact sdRun_initCommand (sdRun_acceptR1 fun _ => .of_sd rfl) s
  case h_6 => exact sdRun_initCommand (sdRun_evalInitLoop _) s
  case h_7 => exact sdRun_initCommand (sdRun_evalInitLoop _) s
  case h_8 => exact sdRun_initCommand sdRun_evalCmd58 s
  case h_9 => exact sdRun_initCommand sdRun_evalCmd9 s
  case h_11 => exact sdRun_initCommand (sdRun_acceptR1 fun _ => .of_sd rfl) s

/-! ### The handler and removal -/

/-- Whatever handler the control tuple selects (R279). -/
theorem sdRun_sdHandler {s : State} {r : Ctl × State} (h : sdHandler s = .ok r) : SdRun s r.2 := by
  unfold sdHandler at h
  split at h
  · cases h
  split at h
  case h_1 hinit => exact sdRun_initHandler h (.inl hinit)
  case h_2 =>
    split at h
    next hvalid => exact sdRun_readHandler h hvalid
    next => cases h
  case h_3 =>
    split at h
    next hvalid => exact sdRun_writeHandler h hvalid
    next => cases h
  case h_4 =>
    split at h <;> cases h
    · exact .of_sd rfl
    · exact .refl s
  all_goals cases h; exact .refl s

theorem sdRun_removal (s : State) : SdRun s (removal s) := by
  unfold removal
  dsimp only
  split
  next hvalid =>
    exact (SdRun.trans (.of_sd rfl) (.onOp _ (fun o => { o with err := .cardRemoved }) rfl rfl)).trans (.finish (by exact hvalid) _ _)
  next => exact .of_sd rfl

end Sys2Proof.Machine
end

section
/-! What a reservation may change (45_reservation.md): the runs of `checkout`'s loop as a relation without a bound, and one relation between
the state before a producer's operation and the state after it, whatever irq calls preempt it. -/

namespace Sys2Proof.Machine

/-! ### `checkout` as a relation (R431) -/

/-- The insertion point leaves room for the length: not null, and its offset far enough from the end (R431 step 2). -/
def hasRoom (p : Params) (len : Nat) (w : U32) : Bool := ipValid w && decide (ipOff w + len ≤ p.logBufCap)

/-- The runs of R431's loop from a word observed: one constructor per way a round goes. -/
inductive CheckoutRuns (pre : Hook) (len : Nat) : U32 → State → Grant → State → Prop
  /-- steps 2 to 4: the word is unchanged at step 3, the bytes are granted -/
  | granted {old : U32} {s s1 s2 s3 : State} (hwf : ipWellFormed old = true) (hroom : hasRoom s.cfg len old = true)
      (hstep2 : pre s = .ok s1) (hstep3 : pre (addCheckout (ipIdx old) s1) = .ok s2) (hsame : s2.sh.ip = old)
      (hstep4 : pre (storeIp (mkIp true (ipIdx old) (ipOff old + len)) s2) = .ok s3) :
      CheckoutRuns pre len old s (.handle (handleOf s3.cfg.logBufCap (ipIdx old) (ipOff old)))
        (addCount (ipIdx old) (BitVec.ofNat 32 len) s3)
  /-- step 5: the word has changed at step 3, the checkout is taken back -/
  | lost {old : U32} {s s1 s2 s3 t : State} {g : Grant} (hwf : ipWellFormed old = true) (hroom : hasRoom s.cfg len old = true)
      (hstep2 : pre s = .ok s1) (hstep3 : pre (addCheckout (ipIdx old) s1) = .ok s2) (hother : s2.sh.ip ≠ old)
      (hstep5 : pre s2 = .ok s3) (rest : CheckoutRuns pre len s2.sh.ip (subCheckout (ipIdx old) s3) g t) :
      CheckoutRuns pre len old s g t
  /-- steps 6 and 7: no candidate is empty -/
  | full {old : U32} {s s1 s2 : State} (hwf : ipWellFormed old = true) (hroom : hasRoom s.cfg len old = false)
      (hstep6 : firstEmpty pre (candidates (ipValid old) (ipIdx old)) s = .ok (none, s1)) (hstep7 : pre s1 = .ok s2) :
      CheckoutRuns pre len old s (.refused .outOfSpace) (addMissed s2)
  /-- steps 8 to 10: the word is unchanged at step 8, the insertion point goes to an empty buffer -/
  | switched {old : U32} {s s1 s2 s3 t : State} {g : Grant} {j : Nat} (hwf : ipWellFormed old = true)
      (hroom : hasRoom s.cfg len old = false)
      (hstep6 : firstEmpty pre (candidates (ipValid old) (ipIdx old)) s = .ok (some j, s1)) (hstep8 : pre s1 = .ok s2)
      (hsame : s2.sh.ip = old) (hstep9 : vacate pre (ipValid old) (ipIdx old) (storeIp (mkIp true j 0) s2) = .ok s3)
      (rest : CheckoutRuns pre len (mkIp true j 0) s3 g t) : CheckoutRuns pre len old s g t
  /-- step 8: the word has changed -/
  | raced {old : U32} {s s1 s2 t : State} {g : Grant} {j : Nat} (hwf : ipWellFormed old = true)
      (hroom : hasRoom s.cfg len old = false)
      (hstep6 : firstEmpty pre (candidates (ipValid old) (ipIdx old)) s = .ok (some j, s1)) (hstep8 : pre s1 = .ok s2)
      (hother : s2.sh.ip ≠ old) (rest : CheckoutRuns pre len s2.sh.ip s2 g t) : CheckoutRuns pre len old s g t

/-- A loop that answers is a run. -/
theorem checkoutRuns_of_loop {pre : Hook} {len fuel : Nat} {old : U32} {s t : State} {g : Grant}
    (h : checkoutLoop pre len fuel old s = .ok (g, t)) : CheckoutRuns pre len old s g t := by
  induction fuel generalizing old s with
  | zero => cases h
  | succ fuel ih =>
    unfold checkoutLoop at h
    split at h
    · cases h
    next hwf =>
      simp only [Bool.not_eq_true', Bool.not_eq_false] at hwf
      split at h
      next hroom =>
        obtain ⟨s1, hstep2, h⟩ := bind_eq_ok h
        obtain ⟨s2, hstep3, h⟩ := bind_eq_ok h
        split at h
        next hsame =>
          obtain ⟨s3, hstep4, h⟩ := bind_eq_ok h
          cases h
          exact .granted hwf hroom hstep2 hstep3 hsame hstep4
        next hother =>
          obtain ⟨s3, hstep5, h⟩ := bind_eq_ok h
          exact .lost hwf hroom hstep2 hstep3 hother hstep5 (ih h)
      next hroom =>
        have hroom : hasRoom s.cfg len old = false := Bool.eq_false_iff.mpr hroom
        obtain ⟨⟨o, s1⟩, hstep6, h⟩ := bind_eq_ok h
        dsimp only at h
        split at h
        · obtain ⟨s2, hstep7, h⟩ := bind_eq_ok h
          cases h
          exact .full hwf hroom hstep6 hstep7
        · obtain ⟨s2, hstep8, h⟩ := bind_eq_ok h
          split at h
          next hsame =>
            obtain ⟨s3, hstep9, h⟩ := bind_eq_ok h
            exact .switched hwf hroom hstep6 hstep8 hsame hstep9 (ih h)
          next hother => exact .raced hwf hroom hstep6 hstep8 hother (ih h)

/-- A checkout is refused for its length, or runs the loop from the word it loads. -/
theorem checkoutWith_cases {pre : Hook} {len : Nat} {s t : State} {g : Grant} (h : checkoutWith pre len s = .ok (g, t)) :
    ((len = 0 ∨ s.cfg.logBufCap < len) ∧ g = .refused .rejected ∧ t = s) ∨
    (len ≠ 0 ∧ len ≤ s.cfg.logBufCap ∧ ∃ s1, pre s = .ok s1 ∧ CheckoutRuns pre len s1.sh.ip s1 g t) := by
  unfold checkoutWith at h
  split at h
  next hlen => cases h; exact .inl ⟨hlen, rfl, rfl⟩
  next hlen =>
    obtain ⟨s1, hstep1, h⟩ := bind_eq_ok h
    push Not at hlen
    exact .inr ⟨hlen.1, hlen.2, s1, hstep1, checkoutRuns_of_loop h⟩

/-- Step 6: each candidate's count is loaded at an atomic step of its own. -/
theorem firstEmpty_cons {pre : Hook} {k : Nat} {rest : List Nat} {s t : State} {o : Option Nat}
    (h : firstEmpty pre (k :: rest) s = .ok (o, t)) :
    ∃ s1, pre s = .ok s1 ∧ ((s1.sh.buf k).count = 0 ∧ o = some k ∧ t = s1 ∨
      (s1.sh.buf k).count ≠ 0 ∧ firstEmpty pre rest s1 = .ok (o, t)) := by
  unfold firstEmpty at h
  obtain ⟨s1, hs1, h⟩ := bind_eq_ok h
  refine ⟨s1, hs1, ?_⟩
  split at h
  next hempty => cases h; exact .inl ⟨hempty, rfl, rfl⟩
  next hempty => exact .inr ⟨hempty, h⟩

/-- The candidate found is one of those given. -/
theorem firstEmpty_mem {pre : Hook} {ks : List Nat} {s t : State} {j : Nat} (h : firstEmpty pre ks s = .ok (some j, t)) : j ∈ ks := by
  induction ks generalizing s with
  | nil => cases h
  | cons k rest ih =>
    obtain ⟨s1, _, ⟨_, hj, _⟩ | ⟨_, hrest⟩⟩ := firstEmpty_cons h
    · cases hj; exact List.mem_cons_self
    · exact List.mem_cons_of_mem _ (ih hrest)

theorem candidates_lt {v : Bool} {i j : Nat} (hi : i < 2) (h : j ∈ candidates v i) : j < 2 := by
  unfold candidates at h
  have hmod : (i + 1) % Config.nBuf < 2 := Nat.mod_lt _ (by decide)
  split at h <;> simp only [List.mem_cons, List.not_mem_nil, or_false] at h
  · exact h ▸ hmod
  · rcases h with rfl | rfl
    · exact hmod
    · exact hi

/-- Steps 9 and 10: nothing, or one load, or one load and the mark. -/
theorem vacate_cases {pre : Hook} {v : Bool} {i : Nat} {s t : State} (h : vacate pre v i s = .ok t) :
    (v = false ∧ t = s) ∨
    (v = true ∧ ∃ s1, pre s = .ok s1 ∧ ((s1.sh.buf i).count = 0 ∧ t = s1 ∨
      (s1.sh.buf i).count ≠ 0 ∧ ∃ s2, pre s1 = .ok s2 ∧ t = storePending i true s2)) := by
  unfold vacate at h
  split at h
  next hv =>
    obtain ⟨s1, hs1, h⟩ := bind_eq_ok h
    refine .inr ⟨hv, s1, hs1, ?_⟩
    split at h
    next hempty => cases h; exact .inl ⟨hempty, rfl⟩
    next hempty =>
      obtain ⟨s2, hs2, h⟩ := bind_eq_ok h
      cases h
      exact .inr ⟨hempty, s2, hs2, rfl⟩
  next hv => cases h; exact .inl ⟨by simpa using hv, rfl⟩

/-- `checkin` is refused, or takes one checkout off after its load. -/
theorem checkinWith_cases {pre : Hook} {h : Nat} {s t : State} {e : Err} (hc : checkinWith pre h s = .ok (e, t)) :
    (e = .rejected ∧ t = s) ∨
    ∃ s1, pre s = .ok s1 ∧ (e = .rejected ∧ t = s1 ∨ e = .ok ∧ t = subCheckout (h / s1.cfg.logBufCap) s1) := by
  unfold checkinWith at hc
  split at hc
  · cases hc; exact .inl ⟨rfl, rfl⟩
  · obtain ⟨s1, hs1, hc⟩ := bind_eq_ok hc
    refine .inr ⟨s1, hs1, ?_⟩
    split at hc <;> cases hc
    · exact .inl ⟨rfl, rfl⟩
    · exact .inr ⟨rfl, rfl⟩

/-! ### The relation -/

/-- What a producer's operation leaves: everything but the shared fields, LOGBUF, the schedule and the returned values; an insertion point
in range stays so. -/
structure ResRun (s t : State) : Prop where
  cfg : t.cfg = s.cfg
  sd : t.sd = s.sd
  op : t.op = s.op
  lg : t.lg = s.lg
  mem : memCanonical s = true → memCanonical t = true
  env : t.env = { s.env with irqs := t.env.irqs, irqRets := t.env.irqRets, ret := t.env.ret }
  irqs : t.env.irqs <:+ s.env.irqs
  ip : s.cfg.wf = true → ipInRange s = true → ipInRange t = true

theorem ResRun.refl (s : State) : ResRun s s := ⟨rfl, rfl, rfl, rfl, id, rfl, List.suffix_refl _, fun _ => id⟩

theorem ResRun.trans {s t u : State} (hst : ResRun s t) (htu : ResRun t u) : ResRun s u where
  cfg := htu.cfg.trans hst.cfg
  sd := htu.sd.trans hst.sd
  op := htu.op.trans hst.op
  lg := htu.lg.trans hst.lg
  mem := fun h => htu.mem (hst.mem h)
  env := by rw [htu.env, hst.env]
  irqs := htu.irqs.trans hst.irqs
  ip := fun hwf h => htu.ip (hst.cfg ▸ hwf) (hst.ip hwf h)

/-- An update of the shared fields that keeps the insertion point. -/
theorem ResRun.onSh (s : State) (f : Shared → Shared) (hip : (f s.sh).ip = s.sh.ip) : ResRun s (s.onSh f) where
  cfg := rfl
  sd := rfl
  op := rfl
  lg := rfl
  mem := id
  env := rfl
  irqs := List.suffix_refl _
  ip := by
    intro _ h
    unfold ipInRange at h ⊢
    simpa only [State.onSh_sh, State.onSh_cfg, hip] using h

theorem ResRun.addCheckout (i : Nat) (s : State) : ResRun s (addCheckout i s) := .onSh _ _ (Shared.setBuf_ip _ _ _)
theorem ResRun.subCheckout (i : Nat) (s : State) : ResRun s (subCheckout i s) := .onSh _ _ (Shared.setBuf_ip _ _ _)
theorem ResRun.addCount (i : Nat) (n : U32) (s : State) : ResRun s (addCount i n s) := .onSh _ _ (Shared.setBuf_ip _ _ _)
theorem ResRun.storeCount (i : Nat) (n : U32) (s : State) : ResRun s (storeCount i n s) := .onSh _ _ (Shared.setBuf_ip _ _ _)
theorem ResRun.storePending (i : Nat) (v : Bool) (s : State) : ResRun s (storePending i v s) :=
  .onSh _ _ (Shared.setBuf_ip _ _ _)
theorem ResRun.addMissed (s : State) : ResRun s (addMissed s) := .onSh _ _ rfl

/-- The insertion point goes to an offset within a buffer. -/
theorem ResRun.storeIp {s : State} {i o : Nat} (hi : i < 2) (ho : o ≤ s.cfg.logBufCap) : ResRun s (storeIp (mkIp true i o) s) where
  cfg := rfl
  sd := rfl
  op := rfl
  lg := rfl
  mem := id
  env := rfl
  irqs := List.suffix_refl _
  ip := by
    intro hwf _
    have hcap : s.cfg.logBufCap < 2 ^ 24 := by
      simp only [Params.wf, Bool.and_eq_true, decide_eq_true_eq] at hwf
      omega
    obtain ⟨hform, hvalid, _, hoff⟩ := mkIp_fields i o hi (by omega)
    simp only [ipInRange, storeIp_sh, storeIp_cfg, hform, hvalid, hoff, Bool.not_true, Bool.false_or, Bool.true_and, decide_eq_true ho]

theorem ResRun.poke (s : State) (sp : Space) (a : Nat) (bs : List Byte) : ResRun s (s.poke sp a bs) where
  cfg := rfl
  sd := rfl
  op := rfl
  lg := rfl
  mem := memCanonical_poke sp a bs
  env := rfl
  irqs := List.suffix_refl _
  ip := fun _ => id

/-- A returned value goes to `ret` or to `irqRets`, by the context. -/
theorem putRet_env (r : Ret) (s : State) :
    (putRet r s).env = { s.env with irqRets := (putRet r s).env.irqRets, ret := (putRet r s).env.ret } := by
  unfold putRet
  cases hctx : s.env.ctx <;> simp only [State.onEnv_env, hctx]

theorem ResRun.putRet (r : Ret) (s : State) : ResRun s (putRet r s) where
  cfg := rfl
  sd := rfl
  op := rfl
  lg := rfl
  mem := id
  env := by rw [putRet_env]
  irqs := by rw [putRet_env]
  ip := fun _ => id

/-! ### The operations under a hook -/

/-- A hook that itself makes producers' operations only. -/
def HookRuns (pre : Hook) : Prop := ∀ {s t : State}, pre s = .ok t → ResRun s t

section
variable {pre : Hook} (hpre : HookRuns pre)
include hpre

theorem resRun_firstEmpty {ks : List Nat} {s t : State} {o : Option Nat} (h : firstEmpty pre ks s = .ok (o, t)) : ResRun s t := by
  induction ks generalizing s with
  | nil => cases h; exact .refl _
  | cons k rest ih =>
    obtain ⟨s1, hs1, ⟨_, _, rfl⟩ | ⟨_, hrest⟩⟩ := firstEmpty_cons h
    · exact hpre hs1
    · exact (hpre hs1).trans (ih hrest)

theorem resRun_vacate {v : Bool} {i : Nat} {s t : State} (h : vacate pre v i s = .ok t) : ResRun s t := by
  rcases vacate_cases h with ⟨_, rfl⟩ | ⟨_, s1, hs1, ⟨_, rfl⟩ | ⟨_, s2, hs2, rfl⟩⟩
  · exact .refl _
  · exact hpre hs1
  · exact ((hpre hs1).trans (hpre hs2)).trans (.storePending _ _ _)

theorem resRun_checkoutRuns {len : Nat} {old : U32} {s t : State} {g : Grant} (h : CheckoutRuns pre len old s g t) : ResRun s t := by
  induction h with
  | granted hwf hroom hstep2 hstep3 hsame hstep4 =>
    have hrun := ((hpre hstep2).trans (.addCheckout _ _)).trans (hpre hstep3)
    simp only [hasRoom, Bool.and_eq_true, decide_eq_true_eq, ← hrun.cfg] at hroom
    exact ((hrun.trans (.storeIp (ipIdx_lt hwf) hroom.2)).trans (hpre hstep4)).trans (.addCount _ _ _)
  | lost hwf hroom hstep2 hstep3 hother hstep5 rest ih =>
    exact (((((hpre hstep2).trans (.addCheckout _ _)).trans (hpre hstep3)).trans (hpre hstep5)).trans (.subCheckout _ _)).trans ih
  | full hwf hroom hstep6 hstep7 =>
    exact ((resRun_firstEmpty hpre hstep6).trans (hpre hstep7)).trans (.addMissed _)
  | switched hwf hroom hstep6 hstep8 hsame hstep9 rest ih =>
    have hj := candidates_lt (ipIdx_lt hwf) (firstEmpty_mem hstep6)
    exact ((((resRun_firstEmpty hpre hstep6).trans (hpre hstep8)).trans (.storeIp hj (Nat.zero_le _))).trans (resRun_vacate hpre hstep9)).trans ih
  | raced hwf hroom hstep6 hstep8 hother rest ih => exact ((resRun_firstEmpty hpre hstep6).trans (hpre hstep8)).trans ih

theorem resRun_checkoutWith {len : Nat} {s t : State} {g : Grant} (h : checkoutWith pre len s = .ok (g, t)) : ResRun s t := by
  rcases checkoutWith_cases h with ⟨_, _, rfl⟩ | ⟨_, _, s1, hs1, hrun⟩
  · exact .refl _
  · exact (hpre hs1).trans (resRun_checkoutRuns hpre hrun)

theorem resRun_checkinWith {h : Nat} {s t : State} {e : Err} (hc : checkinWith pre h s = .ok (e, t)) : ResRun s t := by
  rcases checkinWith_cases hc with ⟨_, rfl⟩ | ⟨s1, hs1, ⟨_, rfl⟩ | ⟨_, rfl⟩⟩
  · exact .refl _
  · exact hpre hs1
  · exact (hpre hs1).trans (.subCheckout _ _)

omit hpre in
theorem resRun_copySegments {segs : List (HostAddr × U32)} {p : Nat} {s t : State} (h : copySegments p segs s = .ok t) :
    ResRun s t := by
  induction segs generalizing p s with
  | nil => cases h; exact .refl _
  | cons x rest ih =>
    obtain ⟨b, _, h⟩ := bind_eq_ok h
    obtain ⟨u, hu, h⟩ := bind_eq_ok h
    obtain ⟨_, rfl⟩ := writeBytes_ok hu
    exact (ResRun.poke s _ _ _).trans (ih h)

omit hpre in
/-- A record is refused as its checkout is, or copied into the grant and checked in. -/
theorem appendRecord_cases {total : Nat} {segs : List (HostAddr × U32)} {s t : State} {e : Err}
    (h : appendRecord pre total segs s = .ok (e, t)) :
    checkoutWith pre total s = .ok (.refused e, t) ∨
    ∃ w s1 s2 e', checkoutWith pre total s = .ok (.handle w, s1) ∧ copySegments w.toNat segs s1 = .ok s2 ∧
      checkinWith pre w.toNat s2 = .ok (e', t) ∧ e = .ok := by
  unfold appendRecord at h
  obtain ⟨⟨g, s1⟩, hg, h⟩ := bind_eq_ok h
  dsimp only at h
  split at h
  · cases h; exact .inl hg
  next w =>
    obtain ⟨s2, hs2, h⟩ := bind_eq_ok h
    obtain ⟨⟨e', s3⟩, hs3, h⟩ := bind_eq_ok h
    cases h
    exact .inr ⟨w, s1, s2, e', hg, hs2, hs3, rfl⟩

theorem resRun_appendRecord {total : Nat} {segs : List (HostAddr × U32)} {s t : State} {e : Err}
    (h : appendRecord pre total segs s = .ok (e, t)) : ResRun s t := by
  rcases appendRecord_cases h with h | ⟨w, s1, s2, e', hg, hcopy, hin, _⟩
  · exact resRun_checkoutWith hpre h
  · exact ((resRun_checkoutWith hpre hg).trans (resRun_copySegments hcopy)).trans (resRun_checkinWith hpre hin)

omit hpre in
/-- A gather is refused with nothing changed, or appends the record of its segments. -/
theorem logGatherWith_cases {segments : HostAddr} {count : U32} {s t : State} {e : Err}
    (h : logGatherWith pre segments count s = .ok (e, t)) :
    t = s ∨ ∃ segs, appendRecord pre (segmentsTotal segs) segs s = .ok (e, t) := by
  unfold logGatherWith at h
  split at h
  · cases h; exact .inl rfl
  · obtain ⟨b, _, h⟩ := bind_eq_ok h
    dsimp only at h
    split at h
    · cases h; exact .inl rfl
    · exact .inr ⟨_, h⟩

theorem resRun_logGatherWith {segments : HostAddr} {count : U32} {s t : State} {e : Err}
    (h : logGatherWith pre segments count s = .ok (e, t)) : ResRun s t := by
  rcases logGatherWith_cases h with rfl | ⟨segs, h⟩
  · exact .refl _
  · exact resRun_appendRecord hpre h

theorem resRun_doCheckout {len : U32} {s t : State} (h : doCheckout pre len s = .ok t) : ResRun s t := by
  obtain ⟨⟨g, u⟩, hu, h⟩ := bind_eq_ok h
  cases h
  exact (resRun_checkoutWith hpre hu).trans (.putRet _ _)

theorem resRun_doCheckin {w : U32} {s t : State} (h : doCheckin pre w s = .ok t) : ResRun s t := by
  obtain ⟨⟨e, u⟩, hu, h⟩ := bind_eq_ok h
  cases h
  exact (resRun_checkinWith hpre hu).trans (.putRet _ _)

theorem resRun_doLog {data : HostAddr} {len : U32} {s t : State} (h : doLog pre data len s = .ok t) : ResRun s t := by
  obtain ⟨⟨e, u⟩, hu, h⟩ := bind_eq_ok h
  cases h
  exact (resRun_appendRecord hpre hu).trans (.putRet _ _)

theorem resRun_doLogGather {segments : HostAddr} {count : U32} {s t : State} (h : doLogGather pre segments count s = .ok t) :
    ResRun s t := by
  obtain ⟨⟨e, u⟩, hu, h⟩ := bind_eq_ok h
  cases h
  exact (resRun_logGatherWith hpre hu).trans (.putRet _ _)

theorem resRun_doMissedCheckouts {s t : State} (h : doMissedCheckouts pre s = .ok t) : ResRun s t := by
  obtain ⟨u, hu, h⟩ := bind_eq_ok h
  cases h
  exact (hpre hu).trans (.putRet _ _)

end

/-! ### Irq calls, and main's atomic steps -/

theorem hookRuns_noPreempt : HookRuns noPreempt := by
  intro s t h
  cases h
  exact .refl _

theorem resRun_irqCall {i : Instr} {s t : State} (h : irqCall i s = .ok t) : ResRun s t := by
  cases i
  case checkout len => exact resRun_doCheckout hookRuns_noPreempt h
  case checkin w => exact resRun_doCheckin hookRuns_noPreempt h
  case log data len => exact resRun_doLog hookRuns_noPreempt h
  case logGather segments count => exact resRun_doLogGather hookRuns_noPreempt h
  case flightBlocks => cases h; exact .putRet _ _
  case missedCheckouts => exact resRun_doMissedCheckouts hookRuns_noPreempt h
  all_goals cases h

theorem irqCalls_cons {i : Instr} {rest : List Instr} {s t : State} (h : irqCalls (i :: rest) s = .ok t) :
    ∃ u, irqCall i s = .ok u ∧ irqCalls rest u = .ok t := by
  unfold irqCalls at h
  exact bind_eq_ok (x := irqCall i s) (f := irqCalls rest) h

theorem resRun_irqCalls {batch : List Instr} {s t : State} (h : irqCalls batch s = .ok t) : ResRun s t := by
  induction batch generalizing s with
  | nil => cases h; exact .refl _
  | cons i rest ih =>
    obtain ⟨u, hu, ht⟩ := irqCalls_cons h
    exact (resRun_irqCall hu).trans (ih ht)

/-- The state in which an irq batch runs, with the rest of the schedule. -/
def enterIrq (rest : List (List Instr)) (s : State) : State := s.onEnv fun e => { e with irqs := rest, ctx := .irq }

/-- Main goes on after an irq batch. -/
def leaveIrq (s : State) : State := s.onEnv fun e => { e with ctx := .main }

/-- At an atomic step nothing happens, or the next batch runs to completion. -/
theorem preemptPoint_cases {s t : State} (h : preemptPoint s = .ok t) :
    t = s ∨ ∃ batch rest u, s.env.ctx = .main ∧ s.env.critical = false ∧ s.env.irqs = batch :: rest ∧
      irqCalls batch (enterIrq rest s) = .ok u ∧ t = leaveIrq u := by
  unfold preemptPoint at h
  split at h
  next batch rest hctx hcritical hirqs =>
    obtain ⟨u, hu, h⟩ := bind_eq_ok h
    cases h
    exact .inr ⟨batch, rest, u, hctx, hcritical, hirqs, hu, rfl⟩
  next => cases h; exact .inl rfl

theorem hookRuns_preemptPoint : HookRuns preemptPoint := by
  intro s t h
  rcases preemptPoint_cases h with rfl | ⟨batch, rest, u, hctx, _, hirqs, hu, rfl⟩
  · exact .refl _
  · have hrun := resRun_irqCalls hu
    refine ⟨hrun.cfg, hrun.sd, hrun.op, hrun.lg, hrun.mem, ?_, ?_, hrun.ip⟩
    · show { u.env with ctx := Ctx.main } = _
      rw [hrun.env]
      show _ = { s.env with irqs := u.env.irqs, irqRets := u.env.irqRets, ret := u.env.ret }
      rw [← hctx]
      rfl
    · rw [hirqs]
      exact hrun.irqs.trans (List.suffix_cons _ _)

end Sys2Proof.Machine
end

section
/-! The parts of a step: what a handler run of the log engine, its callbacks and a client's call may change, and every step as a sequence of such
parts (42_block_io.md section 2, 44_logging_fsm.md, 46_ports.md). -/

namespace Sys2Proof.Machine

/-! ### The engine as a client finds it -/

/-- The engine's registers are left alone, or an operation is admitted for a callback of this kind (R311, R312). -/
def KeepsOrStarts (P : Cb → Prop) (s t : State) : Prop :=
  (t.sd = s.sd ∧ t.op = s.op) ∨
  (s.sd.state = .ready ∧ ∃ dir addr count buf cb ctx, P cb ∧ t.sd = (opStarted dir addr count buf cb ctx s).sd ∧
    t.op = (opStarted dir addr count buf cb ctx s).op)

/-- Only `SD_READY` admits an operation. -/
theorem ready_of_admits {s : State} {addr count : U32} (h : admits s addr count = true) : s.sd.state = .ready :=
  ((admits_iff s addr count).mp h).1

/-! ### The log engine -/

/-- What a handler run of the log engine leaves: the parameters, the critical section as it was or free, of the environment only the schedule
and the returned values; the engine as it was or with an operation of the log engine's own; a selected flight; and a state that
relies on a flight only if it did, or with one selected. -/
structure LogRun (s t : State) : Prop where
  cfg : t.cfg = s.cfg
  mem : memCanonical s = true → memCanonical t = true
  ip : s.cfg.wf = true → ipInRange s = true → ipInRange t = true
  env : t.env = { s.env with critical := t.env.critical, irqs := t.env.irqs, irqRets := t.env.irqRets, ret := t.env.ret }
  critical : s.env.critical = false → t.env.critical = false
  engine : KeepsOrStarts (fun cb => cb = .logSb → t.lg.flightValid = true) s t
  flight : s.lg.flightValid = true → t.lg.flightValid = true
  held : t.lg.flightValid = true ∨ t.lg.state = s.lg.state ∨ (t.lg.state ≠ .active ∧ t.lg.state ≠ .paused)

theorem LogRun.refl (s : State) : LogRun s s :=
  ⟨rfl, id, fun _ => id, rfl, id, .inl ⟨rfl, rfl⟩, id, .inr (.inl rfl)⟩

/-- A producer's operation is such a run. -/
theorem LogRun.of_res {s t : State} (h : ResRun s t) : LogRun s t where
  cfg := h.cfg
  mem := h.mem
  ip := h.ip
  env := by rw [h.env]
  critical := by rw [h.env]; exact id
  engine := .inl ⟨h.sd, h.op⟩
  flight := by rw [h.lg]; exact id
  held := .inr (.inl (by rw [h.lg]))

/-- What is done before the engine and the log engine's registers change. -/
theorem LogRun.before {s t u : State} (hst : LogRun s t) (hsd : t.sd = s.sd) (hop : t.op = s.op) (hlg : t.lg = s.lg)
    (htu : LogRun t u) : LogRun s u where
  cfg := htu.cfg.trans hst.cfg
  mem := fun h => htu.mem (hst.mem h)
  ip := fun hwf h => htu.ip (hst.cfg ▸ hwf) (hst.ip hwf h)
  env := by rw [htu.env, hst.env]
  critical := fun h => htu.critical (hst.critical h)
  engine := by
    rcases htu.engine with ⟨hsd', hop'⟩ | ⟨hready, dir, addr, count, buf, cb, ctx, hcb, hsd', hop'⟩
    · exact .inl ⟨hsd'.trans hsd, hop'.trans hop⟩
    · refine .inr ⟨hsd ▸ hready, dir, addr, count, buf, cb, ctx, hcb, ?_, ?_⟩
      · rw [hsd', opStarted_sd, opStarted_sd, hsd]
      · rw [hop', opStarted, opStarted, State.onSd_op, State.onSd_op, State.onOp_op, State.onOp_op, hop]
  flight := fun h => htu.flight (hlg ▸ h)
  held := by rw [← hlg]; exact htu.held

theorem LogRun.before_res {s t u : State} (hst : ResRun s t) (htu : LogRun t u) : LogRun s u :=
  LogRun.before (.of_res hst) hst.sd hst.op hst.lg htu

/-- A run that changes the log engine's registers only. -/
theorem LogRun.onLg (s : State) (f : Lg → Lg) (hflight : s.lg.flightValid = true → (f s.lg).flightValid = true)
    (hheld : (f s.lg).flightValid = true ∨ (f s.lg).state = s.lg.state ∨ ((f s.lg).state ≠ .active ∧ (f s.lg).state ≠ .paused)) :
    LogRun s (s.onLg f) :=
  ⟨rfl, id, fun _ => id, rfl, id, .inl ⟨rfl, rfl⟩, hflight, hheld⟩

/-- A run that ends in a state that relies on no flight. -/
theorem LogRun.logFail {st : LogState} (hactive : st ≠ .active) (hpaused : st ≠ .paused) (e : Err) (s : State) :
    LogRun s (logFail st e s) := .onLg s _ id (.inr (.inr ⟨hactive, hpaused⟩))

/-- An admitted operation of the log engine, with an update of its registers. -/
theorem LogRun.started {s : State} {addr count : U32} (hadmits : admits s addr count = true) (dir : OpDir) (buf : Ptr) (cb : Cb)
    (ctx : U32) (f : Lg → Lg) (hcb : cb = .logSb → (f s.lg).flightValid = true)
    (hflight : s.lg.flightValid = true → (f s.lg).flightValid = true)
    (hheld : (f s.lg).flightValid = true ∨ (f s.lg).state = s.lg.state ∨ ((f s.lg).state ≠ .active ∧ (f s.lg).state ≠ .paused)) :
    LogRun s ((opStarted dir addr count buf cb ctx s).onLg f) :=
  ⟨rfl, id, fun _ => id, rfl, id, .inr ⟨ready_of_admits hadmits, dir, addr, count, buf, cb, ctx, hcb, rfl, rfl⟩, hflight, hheld⟩

theorem logRun_acquire {pending : LogState} (hactive : pending ≠ .active) (hpaused : pending ≠ .paused) (block : U32) (s : State) :
    LogRun s (acquire block pending s).2 := by
  unfold acquire
  split
  · exact .logFail (by decide) (by decide) _ s
  · split
    · exact .refl s
    · rcases startOp_cases .read block 1 ⟨.sbimg, 0⟩ .logRead 0 s with ⟨hadmits, e⟩ | ⟨_, e⟩ <;> rw [e]
      · exact .started hadmits .read ⟨.sbimg, 0⟩ .logRead 0 (fun l => { l with state := pending }) (fun h => nomatch h) id
          (.inr (.inr ⟨hactive, hpaused⟩))
      · exact .logFail (by decide) (by decide) _ s

theorem logRun_parseTable (s : State) : LogRun s (parseTable s) := by
  unfold parseTable
  split
  · exact .logFail (by decide) (by decide) _ s
  · split
    · exact .logFail (by decide) (by decide) _ s
    · exact .onLg s _ id (.inr (.inr ⟨nofun, nofun⟩))

theorem logRun_selectFlight (s : State) : LogRun s (selectFlight s) := by
  unfold selectFlight
  split
  · exact .logFail (by decide) (by decide) _ s
  next i _ =>
    exact .onLg s (fun l => { l with
      state := .active, flightIdx := BitVec.ofNat 5 i, flFirst := (flightGet (sbImage s) i).1, flNum := (flightGet (sbImage s) i).2.1
      flTs := (flightGet (sbImage s) i).2.2, flightValid := true, tLastPersist := s.env.now, tLastData := s.env.now, wif := .none
      pauseReq := false, oosPending := false }) (fun _ => rfl) (.inl rfl)
  next i _ =>
    refine LogRun.before_res (t := s.poke .sbimg (flightOffset i) (flightBytes
      (if i = 0 then 1 else satAdd (flightGet (sbImage s) (i - 1)).1 (flightGet (sbImage s) (i - 1)).2.1) 0 0)) (.poke _ _ _ _) ?_
    exact .onLg _ (fun l => { l with
      state := .active, flightIdx := BitVec.ofNat 5 i
      flFirst := if i = 0 then 1 else satAdd (flightGet (sbImage s) (i - 1)).1 (flightGet (sbImage s) (i - 1)).2.1
      flNum := 0, flTs := 0, flightValid := true, tLastPersist := s.env.now, tLastData := s.env.now, wif := .none
      pauseReq := false, oosPending := false }) (fun _ => rfl) (.inl rfl)

theorem logRun_parseSuperblock (s : State) : LogRun s (parseSuperblock s) := by
  unfold parseSuperblock
  split
  · exact .logFail (by decide) (by decide) _ s
  · split
    · exact .logFail (by decide) (by decide) _ s
    · exact logRun_selectFlight s

/-- A persist needs a selected flight; it stores the record, and starts its write where the engine admits it (R396). -/
theorem persist_cases {kind : SbKind} {s t : State} (h : persist kind s = .ok t) :
    s.lg.flightValid = true ∧
      let u := storeFlight s.lg.flightIdx.toNat s.lg.flFirst s.lg.flNum s.lg.flTs s
      ((admits u s.lg.partStart 1 = true ∧
          t = (opStarted .write s.lg.partStart 1 ⟨.sbimg, 0⟩ .logSb (kind.code.setWidth 32) u).onLg fun l =>
            { l with
              wif := .sb, sbKind := kind
              pauseReq := if kind = .pause then false else l.pauseReq
              oosPending := if kind = .oos then false else l.oosPending }) ∨
        (admits u s.lg.partStart 1 = false ∧ t = u)) := by
  unfold persist at h
  split at h
  · cases h
  next hvalid =>
    refine ⟨by simpa using hvalid, ?_⟩
    dsimp only at h ⊢
    rcases startOp_cases .write (storeFlight s.lg.flightIdx.toNat s.lg.flFirst s.lg.flNum s.lg.flTs s).lg.partStart 1 ⟨.sbimg, 0⟩
      .logSb (kind.code.setWidth 32) (storeFlight s.lg.flightIdx.toNat s.lg.flFirst s.lg.flNum s.lg.flTs s) with
      ⟨hadmits, e⟩ | ⟨hadmits, e⟩ <;> rw [e] at h <;> cases h
    · exact .inl ⟨hadmits, rfl⟩
    · exact .inr ⟨hadmits, rfl⟩

theorem logRun_persist {kind : SbKind} {s t : State} (h : persist kind s = .ok t) : LogRun s t := by
  obtain ⟨hvalid, ⟨hadmits, rfl⟩ | ⟨_, rfl⟩⟩ := persist_cases h
  · exact LogRun.before_res (.poke s _ _ _) (.started hadmits _ _ _ _ _ (fun _ => hvalid) id (.inr (.inl rfl)))
  · exact .of_res (.poke s _ _ _)

/-! ### The drain -/

/-- Nulling a word clears bit 31 alone (R155). -/
theorem extractLsb'_ipNull (w : U32) {start len : Nat} (h : start + len ≤ 31) :
    (ipNull w).extractLsb' start len = w.extractLsb' start len := by
  have hmask : ∀ i, i < 31 → (0x7FFFFFFF#32).getLsbD i = true := by decide
  apply BitVec.eq_of_getLsbD_eq
  intro i hi
  simp only [ipNull, BitVec.getLsbD_extractLsb', BitVec.getLsbD_and, hmask (start + i) (by omega), Bool.and_true]

@[simp] theorem ipIdx_ipNull (w : U32) : ipIdx (ipNull w) = ipIdx w := by
  unfold ipIdx
  rw [extractLsb'_ipNull w (by decide)]

@[simp] theorem ipWellFormed_ipNull (w : U32) : ipWellFormed (ipNull w) = ipWellFormed w := by
  unfold ipWellFormed
  rw [extractLsb'_ipNull w (by decide), ipIdx_ipNull]

@[simp] theorem ipValid_ipNull (w : U32) : ipValid (ipNull w) = false := by
  simp [ipValid, ipNull]

/-- What the marks and the selection leave: everything but the shared fields, the counts among them; and an insertion point that is as it
was or null. -/
structure Marks (s t : State) : Prop where
  frame : t = { s with sh := t.sh }
  count : ∀ i, (t.sh.buf i).count = (s.sh.buf i).count
  ip : t.sh.ip = s.sh.ip ∨ t.sh.ip = ipNull s.sh.ip

theorem Marks.refl (s : State) : Marks s s := ⟨rfl, fun _ => rfl, .inl rfl⟩

theorem ipNull_ipNull (w : U32) : ipNull (ipNull w) = ipNull w := by
  unfold ipNull
  rw [BitVec.and_assoc, BitVec.and_self]

theorem Marks.trans {s t u : State} (hst : Marks s t) (htu : Marks t u) : Marks s u where
  frame := by rw [htu.frame, hst.frame]
  count := fun i => (htu.count i).trans (hst.count i)
  ip := by
    rcases htu.ip with h | h <;> rcases hst.ip with h' | h' <;> rw [h, h']
    · exact .inl rfl
    · exact .inr rfl
    · exact .inr rfl
    · exact .inr (ipNull_ipNull _)

/-- Marking a buffer keeps both counts. -/
theorem Marks.storePending (i : Nat) (v : Bool) (s : State) : Marks s (storePending i v s) where
  frame := rfl
  count := by
    intro j
    rw [storePending_sh]
    by_cases h : (i = 0) = (j = 0)
    · have hbuf : ∀ x : Shared, x.buf j = x.buf i := fun x => by simp only [Shared.buf, h]
      rw [hbuf, hbuf, Shared.buf_setBuf]
    · rw [Shared.buf_setBuf_other _ _ _ _ h]
  ip := .inl (Shared.setBuf_ip _ _ _)

theorem Marks.markFull (i : Nat) (s : State) : Marks s (markFull i s) := by
  unfold Machine.markFull
  split
  · exact .storePending _ _ s
  · exact .refl s

theorem Marks.markAged (w : U32) (s : State) : Marks s (markAged w s) := by
  unfold Machine.markAged
  split
  · exact .storePending _ _ s
  · exact .refl s

theorem Marks.nullIp (s : State) : Marks s (nullIp s.sh.ip s) := by
  unfold Machine.nullIp
  split
  · exact ⟨rfl, fun _ => rfl, .inr rfl⟩
  · exact .refl s

theorem markAged_ip (w : U32) (s : State) : (markAged w s).sh.ip = s.sh.ip := by
  unfold markAged
  split
  · exact Shared.setBuf_ip _ _ _
  · rfl

theorem Marks.drainMark (s : State) : Marks s (drainMark s) := by
  unfold Machine.drainMark
  have hfull : Marks s (Machine.markFull 1 (Machine.markFull 0 s)) := (Marks.markFull 0 s).trans (.markFull 1 _)
  have haged := hfull.trans (.markAged (Machine.markFull 1 (Machine.markFull 0 s)).sh.ip _)
  have hnull := Marks.nullIp (Machine.markAged (Machine.markFull 1 (Machine.markFull 0 s)).sh.ip
    (Machine.markFull 1 (Machine.markFull 0 s)))
  rw [markAged_ip] at hnull
  exact haged.trans hnull

theorem Marks.drainSelect (s : State) : Marks s (drainSelect s).2 := by
  unfold Machine.drainSelect
  dsimp only
  split
  · exact .refl s
  · split
    · exact .storePending _ _ s
    · exact .refl s

/-- The critical section of the drain: marks and a selection, and the section free again (R107). -/
theorem drainSection_cases {s : State} {r : Option Nat × State} (h : drainSection s = .ok r) :
    ipWellFormed s.sh.ip = true ∧
      let u := drainMark (s.onEnv fun e => { e with critical := true })
      r = ((drainSelect u).1, (drainSelect u).2.onEnv fun e => { e with critical := false }) := by
  unfold drainSection at h
  split at h
  · cases h
  next hwf =>
    cases h
    exact ⟨by simpa using hwf, rfl⟩

/-- What the critical section leaves. -/
theorem drainSection_frame {s : State} {r : Option Nat × State} (h : drainSection s = .ok r) :
    r.2 = { s with sh := r.2.sh, env := { s.env with critical := false } } ∧
      (∀ i, (r.2.sh.buf i).count = (s.sh.buf i).count) ∧ (r.2.sh.ip = s.sh.ip ∨ r.2.sh.ip = ipNull s.sh.ip) := by
  obtain ⟨_, rfl⟩ := drainSection_cases h
  have hmarks := (Marks.drainMark (s.onEnv fun e => { e with critical := true })).trans (.drainSelect _)
  refine ⟨?_, hmarks.count, hmarks.ip⟩
  dsimp only
  rw [hmarks.frame]
  rfl

theorem ipInRange_of_null {s t : State} (hcfg : t.cfg = s.cfg) (h : t.sh.ip = s.sh.ip ∨ t.sh.ip = ipNull s.sh.ip)
    (hs : ipInRange s = true) : ipInRange t = true := by
  unfold ipInRange at hs ⊢
  rcases h with h | h <;> rw [h, hcfg]
  · exact hs
  · simp only [Bool.and_eq_true] at hs
    simp [hs.1]

theorem logRun_drainSection {s : State} {r : Option Nat × State} (h : drainSection s = .ok r) :
    LogRun s r.2 ∧ r.2.sd = s.sd ∧ r.2.op = s.op ∧ r.2.lg = s.lg := by
  obtain ⟨hframe, _, hip⟩ := drainSection_frame h
  have hcfg : r.2.cfg = s.cfg := by rw [hframe]
  have hmem : r.2.mem = s.mem := by rw [hframe]
  have hsd : r.2.sd = s.sd := by rw [hframe]
  have hop : r.2.op = s.op := by rw [hframe]
  have hlg : r.2.lg = s.lg := by rw [hframe]
  have henv : r.2.env = { s.env with critical := false } := by rw [hframe]
  refine ⟨⟨hcfg, ?_, fun _ => ipInRange_of_null hcfg hip, ?_, ?_, .inl ⟨hsd, hop⟩, ?_, .inr (.inl (by rw [hlg]))⟩, hsd, hop, hlg⟩
  · rw [memCanonical_congr hmem]; exact id
  · rw [henv]
  · intro _; rw [henv]
  · rw [hlg]; exact id

/-- Padding: a load, and where the count ends inside a block the padding and the store of the count (R392). -/
theorem drainPad_cases {pre : Hook} {b : Nat} {s t : State} (h : drainPad pre b s = .ok t) :
    ∃ s1, pre s = .ok s1 ∧ ((s1.sh.buf b).count.toNat % 512 = 0 ∧ t = s1 ∨
      (s1.sh.buf b).count.toNat % 512 ≠ 0 ∧ ∃ s2 s3,
        writeBytes s1 .logbuf (handleOf s1.cfg.logBufCap b (s1.sh.buf b).count.toNat).toNat
          (padBytes s1.cfg (512 - (s1.sh.buf b).count.toNat % 512)) = .ok s2 ∧
        pre s2 = .ok s3 ∧
        t = storeCount b (BitVec.ofNat 32 ((s1.sh.buf b).count.toNat + (512 - (s1.sh.buf b).count.toNat % 512))) s3) := by
  unfold drainPad at h
  obtain ⟨s1, hs1, h⟩ := bind_eq_ok h
  refine ⟨s1, hs1, ?_⟩
  dsimp only at h
  split at h
  next hblock => cases h; exact .inl ⟨hblock, rfl⟩
  next hblock =>
    obtain ⟨s2, hs2, h⟩ := bind_eq_ok h
    obtain ⟨s3, hs3, h⟩ := bind_eq_ok h
    cases h
    exact .inr ⟨hblock, s2, s3, hs2, hs3, rfl⟩

/-- Issue: a load, then no space, the write's start, or a refusal (R393). -/
theorem drainIssue_cases {pre : Hook} {b : Nat} {s : State} {r : Ctl × State} (h : drainIssue pre b s = .ok r) :
    ∃ s1, pre s = .ok s1 ∧
      let need := (s1.sh.buf b).count.toNat / 512
      let n := min need (flightRemaining s1.lg)
      ((n = 0 ∧ r = (.again, s1.onLg fun l => { l with oosPending := true })) ∨
        (n ≠ 0 ∧ admits s1 (flightNextBlock s1.lg) (BitVec.ofNat 32 n) = true ∧
          r = (.yield, (opStarted .write (flightNextBlock s1.lg) (BitVec.ofNat 32 n) ⟨.logbuf, bufBase s1.cfg.logBufCap b⟩ .logData
            (BitVec.ofNat 32 b) s1).onLg fun l =>
            { l with
              wif := .data, wifBuf := if b = 0 then 0 else 1, wifNblk := BitVec.ofNat 32 n, tLastData := s1.env.now
              oosPending := if n < need then true else l.oosPending })) ∨
        (n ≠ 0 ∧ admits s1 (flightNextBlock s1.lg) (BitVec.ofNat 32 n) = false ∧ r = (.yield, s1))) := by
  unfold drainIssue at h
  obtain ⟨s1, hs1, h⟩ := bind_eq_ok h
  refine ⟨s1, hs1, ?_⟩
  dsimp only at h ⊢
  split at h
  next hspace => cases h; exact .inl ⟨hspace, rfl⟩
  next hspace =>
    rcases startOp_cases .write (flightNextBlock s1.lg)
      (BitVec.ofNat 32 (min ((s1.sh.buf b).count.toNat / 512) (flightRemaining s1.lg))) ⟨.logbuf, bufBase s1.cfg.logBufCap b⟩ .logData
      (BitVec.ofNat 32 b) s1 with ⟨hadmits, e⟩ | ⟨hadmits, e⟩ <;> rw [e] at h <;> cases h
    · exact .inr (.inl ⟨hspace, hadmits, rfl⟩)
    · exact .inr (.inr ⟨hspace, hadmits, rfl⟩)

/-- The drain: no buffer to write, or padding and issue. -/
theorem drain_cases {pre : Hook} {s : State} {r : Ctl × State} (h : drain pre s = .ok r) :
    ∃ sel, drainSection s = .ok sel ∧ (sel.1 = none ∧ r = (.yield, sel.2) ∨
      ∃ b s1, sel.1 = some b ∧ drainPad pre b sel.2 = .ok s1 ∧ drainIssue pre b s1 = .ok r) := by
  unfold drain at h
  obtain ⟨⟨o, s1⟩, hsel, h⟩ := bind_eq_ok h
  refine ⟨_, hsel, ?_⟩
  dsimp only at h ⊢
  split at h
  · cases h; exact .inl ⟨rfl, rfl⟩
  next b =>
    obtain ⟨s2, hpad, h⟩ := bind_eq_ok h
    exact .inr ⟨b, s2, rfl, hpad, h⟩

section
variable {pre : Hook} (hpre : HookRuns pre)
include hpre

theorem resRun_drainPad {b : Nat} {s t : State} (h : drainPad pre b s = .ok t) : ResRun s t := by
  obtain ⟨s1, hs1, ⟨_, rfl⟩ | ⟨_, s2, s3, hw, hs3, rfl⟩⟩ := drainPad_cases h
  · exact hpre hs1
  · obtain ⟨_, rfl⟩ := writeBytes_ok hw
    exact (((hpre hs1).trans (.poke s1 _ _ _)).trans (hpre hs3)).trans (.storeCount _ _ _)

theorem logRun_drainIssue {b : Nat} {s : State} {r : Ctl × State} (h : drainIssue pre b s = .ok r) : LogRun s r.2 := by
  obtain ⟨s1, hs1, ⟨_, rfl⟩ | ⟨_, hadmits, rfl⟩ | ⟨_, _, rfl⟩⟩ := drainIssue_cases h
  · dsimp only; exact .before_res (hpre hs1) (.onLg s1 _ id (.inr (.inl rfl)))
  · dsimp only; exact .before_res (hpre hs1) (.started hadmits _ _ _ _ _ (by nofun) id (.inr (.inl rfl)))
  · exact .of_res (hpre hs1)

theorem logRun_drain {s : State} {r : Ctl × State} (h : drain pre s = .ok r) : LogRun s r.2 := by
  obtain ⟨sel, hsel, ⟨_, rfl⟩ | ⟨b, s1, _, hpad, hissue⟩⟩ := drain_cases h
  · exact (logRun_drainSection hsel).1
  · obtain ⟨hrun, hsd, hop, hlg⟩ := logRun_drainSection hsel
    exact hrun.before hsd hop hlg (.before_res (resRun_drainPad hpre hpad) (logRun_drainIssue hpre hissue))

/-! ### A handler run and the callbacks -/

omit hpre in
/-- A persist's handler run ends the poll. -/
theorem persist_map {kind : SbKind} {s : State} {r : Ctl × State} (h : (persist kind s).map (fun t => (Ctl.yield, t)) = .ok r) :
    persist kind s = .ok r.2 ∧ r.1 = .yield := by
  cases hp : persist kind s with
  | error e => rw [hp] at h; cases h
  | ok t => rw [hp] at h; cases h; exact ⟨rfl, rfl⟩

theorem logRun_activeHandler {s : State} {r : Ctl × State} (h : activeHandler pre s = .ok r) : LogRun s r.2 := by
  unfold activeHandler at h
  split at h
  · cases h; exact .refl s
  split at h
  · cases h; exact .logFail (by decide) (by decide) _ s
  split at h
  · exact logRun_persist (persist_map h).1
  split at h
  · exact logRun_persist (persist_map h).1
  split at h
  · exact logRun_persist (persist_map h).1
  · exact logRun_drain hpre h

/-- Whatever handler the log engine's state selects (R388). -/
theorem logRun_logHandler {s : State} {r : Ctl × State} (h : logHandler pre s = .ok r) : LogRun s r.2 := by
  unfold logHandler at h
  split at h
  case h_1 => cases h; exact logRun_acquire (by decide) (by decide) _ s
  case h_2 => cases h; exact logRun_acquire (by decide) (by decide) _ s
  case h_5 => cases h; dsimp only; exact logRun_parseTable s
  case h_6 => cases h; dsimp only; exact logRun_parseSuperblock s
  case h_7 => exact logRun_activeHandler hpre h
  case h_8 =>
    cases h
    unfold pausedHandler
    split
    · exact .logFail (by decide) (by decide) _ s
    · exact .refl s
  all_goals cases h; exact .refl s

omit hpre in
/-- A data write's callback: short or failed, or the flight advanced and the buffer cleared (R395). -/
theorem logDataCb_cases {c : CbCall} {s t : State} (h : logDataCb pre c s = .ok t) :
    s.lg.wif = .data ∧ (t = (s.onLg fun l => { l with wif := .none }) ∨
      ∃ s1 s2, pre (s.onLg fun l => { l with wif := .none, flNum := l.flNum + l.wifNblk }) = .ok s1 ∧
        pre (storePending c.ctx.toNat false s1) = .ok s2 ∧ t = storeCount c.ctx.toNat 0 s2) := by
  unfold logDataCb at h
  split at h
  · cases h
  next hwif =>
    refine ⟨by simpa using hwif, ?_⟩
    dsimp only at h
    split at h
    · obtain ⟨s1, hs1, h⟩ := bind_eq_ok h
      obtain ⟨s2, hs2, h⟩ := bind_eq_ok h
      cases h
      exact .inr ⟨s1, s2, hs1, hs2, rfl⟩
    · cases h; exact .inl rfl

theorem logRun_logDataCb {c : CbCall} {s t : State} (h : logDataCb pre c s = .ok t) : LogRun s t := by
  obtain ⟨_, rfl | ⟨s1, s2, hs1, hs2, rfl⟩⟩ := logDataCb_cases h
  · exact .onLg s _ id (.inr (.inl rfl))
  · have hres : ResRun (s.onLg fun l => { l with wif := .none, flNum := l.flNum + l.wifNblk }) (storeCount c.ctx.toNat 0 s2) :=
      (((hpre hs1).trans (.storePending _ _ _)).trans (hpre hs2)).trans (.storeCount _ _ _)
    have henv := hres.env
    refine ⟨hres.cfg, hres.mem, hres.ip, by rw [henv]; rfl, by rw [henv]; exact id, .inl ⟨hres.sd, hres.op⟩, ?_, .inr (.inl ?_)⟩
    · rw [hres.lg]; exact id
    · rw [hres.lg]; rfl

end

/-- An acquire read's callback: parsed, read again, or the ceiling passed (R382). -/
theorem logRun_logReadCb (c : CbCall) (s : State) : LogRun s (logReadCb c s) := by
  unfold logReadCb
  dsimp only
  split
  · refine .onLg s _ id (.inr (.inr ?_))
    split <;> exact ⟨nofun, nofun⟩
  · split
    · exact .onLg s (fun l => { l with retry := l.retry + 1, state := .tooManyRetries, failReason := .retries }) id
        (.inr (.inr ⟨nofun, nofun⟩))
    · refine .onLg s (fun l => { l with retry := l.retry + 1, state := if s.lg.state == .ptPending then .acqPt else .acqSb }) id
        (.inr (.inr ?_))
      dsimp only
      split <;> exact ⟨nofun, nofun⟩

/-- A persist's callback changes the log engine's registers alone, and keeps the flight (R397). -/
theorem logSbCb_frame (c : CbCall) (s : State) :
    logSbCb c s = s.onLg (fun _ => (logSbCb c s).lg) ∧ (logSbCb c s).lg.flightValid = s.lg.flightValid := by
  unfold logSbCb
  dsimp only
  cases sbKindOf c.ctx <;> exact ⟨rfl, rfl⟩

/-! ### A client's calls -/

/-- What a call of main context leaves, the services apart: the parameters; of the environment the schedule and the returned values; the
engine as it was or with a client's operation; and of the log engine's registers its cause and whether a flight is selected, its state
too unless a pause ends. -/
structure CallRun (s t : State) : Prop where
  cfg : t.cfg = s.cfg
  mem : memCanonical s = true → memCanonical t = true
  ip : s.cfg.wf = true → ipInRange s = true → ipInRange t = true
  env : t.env = { s.env with irqs := t.env.irqs, irqRets := t.env.irqRets, ret := t.env.ret }
  engine : KeepsOrStarts (fun cb => cb.isClient = true) s t
  flight : t.lg.flightValid = s.lg.flightValid
  reason : t.lg.failReason = s.lg.failReason
  state : t.lg.state = s.lg.state ∨ (s.lg.state = .paused ∧ t.lg.state = .active)

theorem CallRun.of_res {s t : State} (h : ResRun s t) : CallRun s t :=
  ⟨h.cfg, h.mem, h.ip, h.env, .inl ⟨h.sd, h.op⟩, by rw [h.lg], by rw [h.lg], .inl (by rw [h.lg])⟩

/-- A returned value delivered after a call. -/
theorem CallRun.putRet {s t : State} (h : CallRun s t) (r : Ret) : CallRun s (putRet r t) where
  cfg := h.cfg
  mem := h.mem
  ip := h.ip
  env := by rw [putRet_env, h.env]
  engine := h.engine
  flight := h.flight
  reason := h.reason
  state := h.state

theorem CallRun.refl (s : State) : CallRun s s := .of_res (.refl s)

theorem callRun_startOp (dir : OpDir) (addr count : U32) (buf : Ptr) (cb ctx : U32) (s : State) :
    CallRun s (startOp dir addr count buf (.client cb) ctx s).2 := by
  rcases startOp_cases dir addr count buf (.client cb) ctx s with ⟨hadmits, e⟩ | ⟨_, e⟩ <;> rw [e]
  · exact ⟨rfl, id, fun _ => id, rfl, .inr ⟨ready_of_admits hadmits, dir, addr, count, buf, _, ctx, rfl, rfl, rfl⟩, rfl, rfl, .inl rfl⟩
  · exact .refl s

theorem callRun_hostQuery {a : HostAddr} {n : Nat} {f : List Byte → Ret} {s t : State} (h : toOutcome (hostQuery a n f s) = .next t) :
    CallRun s t := by
  obtain ⟨b, _, hok⟩ := bind_eq_ok (toOutcome_eq_next.mp h)
  cases hok
  exact (CallRun.refl s).putRet _

theorem callRun_hostStore {a : HostAddr} {off : Nat} {bytes : List Byte} {r : Ret} {s t : State}
    (h : toOutcome (hostStore a off bytes r s) = .next t) : CallRun s t := by
  have h := toOutcome_eq_next.mp h
  unfold hostStore at h
  split at h <;> cases h
  exact (CallRun.of_res (.poke s _ _ _)).putRet _

/-- A call with an index above the last is refused. -/
theorem callRun_indexed {p : Prop} [Decidable p] {s t : State} {o : Host.Outcome State Fault Refusal}
    (h : (if p then .next (putCode .rejected s) else o) = .next t) (ho : o = .next t → CallRun s t) : CallRun s t := by
  split at h
  · cases h; exact (CallRun.refl s).putRet _
  · exact ho h

theorem callRun_pause {s t : State} (h : execPause s = .next t) : CallRun s t := by
  cases h
  refine CallRun.putRet ?_ _
  split
  · exact ⟨rfl, id, fun _ => id, rfl, .inl ⟨rfl, rfl⟩, rfl, rfl, .inl rfl⟩
  · exact .refl s

theorem callRun_resume {s t : State} (h : execResume s = .next t) : CallRun s t := by
  cases h
  refine CallRun.putRet ?_ _
  split
  next hpaused => exact ⟨rfl, id, fun _ => id, rfl, .inl ⟨rfl, rfl⟩, rfl, rfl, .inr ⟨hpaused, rfl⟩⟩
  next => exact .refl s

theorem callRun_setFlightTimestamp {utc : U32} {s t : State} (h : execSetFlightTimestamp utc s = .next t) : CallRun s t := by
  cases h
  refine CallRun.putRet ?_ _
  split
  · exact ⟨rfl, id, fun _ => id, rfl, .inl ⟨rfl, rfl⟩, rfl, rfl, .inl rfl⟩
  · exact .refl s

/-- A call that only returns a value. -/
theorem callRun_value {r : Ret} {s t : State} (h : Host.Outcome.next (putRet r s) = (.next t : Host.Outcome State Fault Refusal)) :
    CallRun s t := by
  cases h
  exact (CallRun.refl s).putRet _

/-- Every call a client's callback may make (R469). -/
theorem callRun_callFromCallback {i : Instr} {s t : State} (h : callFromCallback i s = .next t) : CallRun s t := by
  cases i
  case read addr count buf cb ctx => cases h; exact (callRun_startOp .read addr count ⟨.host, buf⟩ cb ctx s).putRet _
  case write addr count buf cb ctx => cases h; exact (callRun_startOp .write addr count ⟨.host, buf⟩ cb ctx s).putRet _
  case log data len => exact .of_res (resRun_doLog hookRuns_preemptPoint (toOutcome_eq_next.mp h))
  case logGather segments count => exact .of_res (resRun_doLogGather hookRuns_preemptPoint (toOutcome_eq_next.mp h))
  case checkout len => exact .of_res (resRun_doCheckout hookRuns_preemptPoint (toOutcome_eq_next.mp h))
  case checkin handle => exact .of_res (resRun_doCheckin hookRuns_preemptPoint (toOutcome_eq_next.mp h))
  case missedCheckouts => exact .of_res (resRun_doMissedCheckouts hookRuns_preemptPoint (toOutcome_eq_next.mp h))
  case pause => exact callRun_pause h
  case resume => exact callRun_resume h
  case setFlightTimestamp => exact callRun_setFlightTimestamp h
  case mbrInitTable | sbInit => exact callRun_hostStore h
  case mbrGetEntry | sbFlightGet => exact callRun_indexed h callRun_hostQuery
  case mbrInitEntry | sbFlightSet => exact callRun_indexed h callRun_hostStore
  case crc7 | crc16 | parseResponse | csdCapacity | mbrIsValid | mbrEntryIsValid | mbrEntryType | mbrEntryStartLba | mbrEntryLength
      | sbIsValid | sbVersion | sbContinued | sbPartitionLength | sbFlightSlotFor =>
    exact callRun_hostQuery h
  case status | capacityBlocks | sdState | sdLastError | logState | logFailReason | flightBlocks | crc16Update | buildCommand
      | hdrEncode | hdrDecode =>
    exact callRun_value h
  all_goals cases h

/-! ### The parts of a step -/

/-- The callback a poll is about to make is taken (R469). -/
def callbackTaken (s : State) : State := s.onEnv fun e => { e with cbQueue := none }

/-- One part of a step: a handler run, a delivery, a removal, a callback, a call, or the environment's records. -/
inductive Part : State → State → Prop
  | handler {s : State} {r : Ctl × State} (h : sdHandler s = .ok r) : Part s r.2
  | deliver {s t : State} (h : deliver s = .ok t) : Part s t
  | removal {s : State} (hcard : s.env.cardDetect = false) (hstate : s.sd.state ≠ .absent) : Part s (removal s)
  | logHandler {s : State} {r : Ctl × State} (h : logHandler preemptPoint s = .ok r) : Part s r.2
  | logRead {s : State} {c : CbCall} (hqueue : s.env.cbQueue = some c) (hcb : c.cb = .logRead) : Part s (logReadCb c (callbackTaken s))
  | logData {s t : State} {c : CbCall} (hqueue : s.env.cbQueue = some c) (hcb : c.cb = .logData)
      (h : logDataCb preemptPoint c (callbackTaken s) = .ok t) : Part s t
  | logSb {s : State} {c : CbCall} (hqueue : s.env.cbQueue = some c) (hcb : c.cb = .logSb) : Part s (logSbCb c (callbackTaken s))
  | toClient {s : State} {c : CbCall} (hqueue : s.env.cbQueue = some c) (hcb : c.cb.isClient = true) : Part s (callbackTaken s)
  | call {i : Instr} {s t : State} (h : callFromCallback i s = .next t) : Part s t
  | records {s t : State} (h : t = { s with env := { s.env with
      done := t.env.done, inBytes := t.env.inBytes, stream := t.env.stream, cbScript := t.env.cbScript, ret := t.env.ret,
      irqRets := t.env.irqRets, cbRets := t.env.cbRets, callbacks := t.env.callbacks } }) : Part s t

/-- Parts one after another. -/
abbrev Parts : State → State → Prop := Relation.ReflTransGen Part

theorem Parts.one {s t : State} (h : Part s t) : Parts s t := .single h

/-- A returned value is an observer's record. -/
theorem part_putRet (r : Ret) (s : State) : Part s (putRet r s) := by
  refine .records ?_
  show { s with env := (putRet r s).env } = _
  rw [putRet_env]

theorem parts_callbackCalls {calls : List Instr} {s t : State} (h : callbackCalls calls s = .ok t) : Parts s t := by
  induction calls generalizing s with
  | nil => cases h; exact .refl
  | cons i rest ih =>
    rw [callbackCalls] at h
    obtain ⟨u, hu, h⟩ := bind_eq_ok h
    exact .head (.call (ofOutcome_eq_ok.mp hu)) (.head (.records rfl) (ih h))

theorem parts_runCallback {s t : State} (h : runCallback s = .ok t) : Parts s t := by
  unfold runCallback at h
  split at h
  · cases h; exact .refl
  next c hqueue =>
    dsimp only at h
    split at h
    next hcb => cases h; exact .one (.logRead hqueue hcb)
    next hcb => exact .one (.logData hqueue hcb h)
    next hcb => cases h; exact .one (.logSb hqueue hcb)
    next hcb => exact .head (.toClient hqueue (by rw [hcb]; rfl)) (.head (.records rfl) (parts_callbackCalls h))

/-- Removal comes before the handler (R305, R508). -/
def removalOrHandler (s : State) : Except Stop (Ctl × State) :=
  if !s.env.cardDetect && s.sd.state != .absent then .ok (.again, removal s) else sdHandler s

theorem removalOrHandler_cases {s : State} {r : Ctl × State} (h : removalOrHandler s = .ok r) :
    (s.env.cardDetect = false ∧ s.sd.state ≠ .absent ∧ r = (.again, removal s)) ∨
      ((s.env.cardDetect = true ∨ s.sd.state = .absent) ∧ sdHandler s = .ok r) := by
  unfold removalOrHandler at h
  split at h
  next hgone =>
    cases h
    simp only [Bool.and_eq_true, Bool.not_eq_true', bne_iff_ne] at hgone
    exact .inl ⟨hgone.1, hgone.2, rfl⟩
  next hstays =>
    refine .inr ⟨?_, h⟩
    cases hcard : s.env.cardDetect
    · simpa [hcard] using hstays
    · exact .inl rfl

/-- One round: nothing, or the delivery, then removal or the handler (R279). -/
theorem pollBody_cases {s : State} {r : Ctl × State} (h : pollBody s = .ok r) :
    ((s.sd.xferPending = true ∧ s.env.done = false) ∧ r = (.yield, s)) ∨
    ((s.sd.xferPending = false ∨ s.env.done = true) ∧
      ∃ u, (s.sd.xferPending = true ∧ deliver s = .ok u ∨ s.sd.xferPending = false ∧ u = s) ∧
        ((u.env.cardDetect = false ∧ u.sd.state ≠ .absent ∧ r = (.again, removal u)) ∨
          ((u.env.cardDetect = true ∨ u.sd.state = .absent) ∧ sdHandler u = .ok r))) := by
  unfold pollBody at h
  split at h
  next hwait =>
    cases h
    exact .inl ⟨by simpa using hwait, rfl⟩
  next hgo =>
    have hgo : s.sd.xferPending = false ∨ s.env.done = true := by
      cases hp : s.sd.xferPending <;> cases hd : s.env.done <;> simp_all
    refine .inr ⟨hgo, ?_⟩
    dsimp only at h
    split at h
    next hpending =>
      obtain ⟨u, hu, h⟩ := bind_eq_ok h
      exact ⟨u, .inl ⟨hpending, hu⟩, removalOrHandler_cases h⟩
    next hpending =>
      obtain ⟨u, hu, h⟩ := bind_eq_ok h
      cases hu
      exact ⟨s, .inr ⟨by simpa using hpending, rfl⟩, removalOrHandler_cases h⟩

theorem parts_pollBody {s : State} {r : Ctl × State} (h : pollBody s = .ok r) : Parts s r.2 := by
  rcases pollBody_cases h with ⟨_, rfl⟩ | ⟨_, u, hu, hrun⟩
  · exact .refl
  · have hdelivered : Parts s u := by
      rcases hu with ⟨_, hu⟩ | ⟨_, rfl⟩
      · exact .one (.deliver hu)
      · exact .refl
    rcases hrun with ⟨hcard, hstate, rfl⟩ | ⟨_, hrun⟩
    · exact hdelivered.tail (.removal hcard hstate)
    · exact hdelivered.tail (.handler hrun)

/-- A round and the callback it requests. -/
theorem pollRound_cases {s : State} {r : Ctl × State} (h : pollRound s = .ok r) :
    ∃ b, pollBody s = .ok b ∧ runCallback b.2 = .ok r.2 ∧ r.1 = b.1 := by
  obtain ⟨b, hb, h⟩ := bind_eq_ok h
  obtain ⟨u, hu, h⟩ := bind_eq_ok h
  cases h
  exact ⟨b, hb, hu, rfl⟩

theorem parts_pollRound {s : State} {r : Ctl × State} (h : pollRound s = .ok r) : Parts s r.2 := by
  obtain ⟨b, hb, hcallback, _⟩ := pollRound_cases h
  exact (parts_pollBody hb).trans (parts_runCallback hcallback)

theorem parts_pollLoop {fuel : Nat} {s t : State} (h : pollLoop fuel s = .ok t) : Parts s t := by
  induction fuel generalizing s with
  | zero => cases h
  | succ fuel ih =>
    obtain ⟨⟨c, u⟩, hu, h⟩ := bind_eq_ok h
    dsimp only at h
    split at h
    · exact (parts_pollRound hu).trans (ih h)
    · cases h; exact parts_pollRound hu

theorem parts_logLoop {fuel : Nat} {s t : State} (h : logLoop preemptPoint fuel s = .ok t) : Parts s t := by
  induction fuel generalizing s with
  | zero => cases h
  | succ fuel ih =>
    obtain ⟨⟨c, u⟩, hu, h⟩ := bind_eq_ok h
    dsimp only at h
    split at h
    · exact .head (.logHandler hu) (ih h)
    · cases h; exact .one (.logHandler hu)

/-- A word the engine sends. -/
theorem parts_sendWord {selected : Bool} {s t : State} (h : sendWord selected s = .next t) : Parts s t := by
  have h := toOutcome_eq_next.mp h
  split at h
  · obtain ⟨⟨c, u⟩, hu, h⟩ := bind_eq_ok h
    exact .head (.handler hu) (parts_runCallback h)
  · cases h; exact .refl

theorem part_completeTransfer (s : State) : Parts s (completeTransfer s) := by
  unfold completeTransfer
  split
  · exact .one (.records rfl)
  · exact .refl

/-- A word the card sends. -/
theorem parts_cardSends {word : List Byte} {s t : State} (h : cardSends word s = .next t) : Parts s t := by
  have h := toOutcome_eq_next.mp h
  split at h
  · obtain ⟨⟨c, u⟩, hu, h⟩ := bind_eq_ok h
    have hfirst : Parts s u := .head (.records (t := s.onEnv fun e => { e with stream := word ++ e.stream }) rfl)
      ((part_completeTransfer _).trans (parts_pollRound hu))
    dsimp only at h
    split at h
    · obtain ⟨⟨c', v⟩, hv, h⟩ := bind_eq_ok h
      cases h
      exact hfirst.trans (parts_pollRound hv)
    · cases h; exact hfirst
  · cases h; exact .refl

/-! ### A step -/

/-- The start of a call: the agenda's entry taken, the context entered, the inputs of a poll latched. -/
def Prepared (s t : State) : Prop :=
  t = { s with env := { s.env with agenda := t.env.agenda, ctx := t.env.ctx, now := t.env.now, cardDetect := t.env.cardDetect } }

/-- The operations a client's callback may make: all of main's but the two services (R469). -/
def isCall : Instr → Bool
  | .sdService _ _ | .logService _ => false
  | .cmd0 _ | .cmd1 _ | .cmd8 _ | .cmd9 _ | .cmd12 _ | .cmd13 _ | .cmd16 _ | .cmd17 _ _ | .cmd18 _ _ | .cmd24 _ _ | .cmd25 _ _ => false
  | .cmd55 _ | .acmd41 _ | .cmd58 _ | .cmd59 _ _ => false
  | .r1 _ | .r1b _ | .r2 _ _ | .r3 _ _ | .r7 _ _ _ _ | .tokStart | .tokStartMulti | .tokStop | .dataResponse _ _ | .dataError _ => false
  | _ => true

/-- From a callback such a call has its own meaning. -/
theorem exec_of_isCall {i : Instr} (h : isCall i = true) (s : State) : exec i s = callFromCallback i s := by
  cases i
  case sdService | logService | cmd0 | cmd1 | cmd8 | cmd9 | cmd12 | cmd13 | cmd16 | cmd17 | cmd18 | cmd24 | cmd25 | cmd55 | acmd41 | cmd58
      | cmd59 | r1 | r1b | r2 | r3 | r7 | tokStart | tokStartMulti | tokStop | dataResponse | dataError => cases h
  all_goals rfl

/-- Every instruction is a sequence of parts, after the inputs of a poll are latched. -/
theorem parts_exec {i : Instr} {s t : State} (h : exec i s = .next t) : ∃ u, Prepared s u ∧ Parts u t := by
  by_cases hcall : isCall i = true
  · exact ⟨s, rfl, .one (.call ((exec_of_isCall hcall s) ▸ h))⟩
  cases i
  case sdService now cardDetect =>
    have h := toOutcome_eq_next.mp h
    cases hpoll : sdPoll now cardDetect s with
    | error e => rw [hpoll] at h; cases h
    | ok u =>
      rw [hpoll] at h
      cases h
      exact ⟨latchInputs now cardDetect s, rfl, (parts_pollLoop hpoll).tail (part_putRet _ _)⟩
  case logService now =>
    have h := toOutcome_eq_next.mp h
    cases hpoll : logLoop preemptPoint 8 (s.onEnv fun e => { e with now := now }) with
    | error e => rw [hpoll] at h; cases h
    | ok u =>
      rw [hpoll] at h
      cases h
      exact ⟨s.onEnv fun e => { e with now := now }, rfl, (parts_logLoop hpoll).tail (part_putRet _ _)⟩
  case cmd0 | cmd1 | cmd8 | cmd9 | cmd12 | cmd13 | cmd16 | cmd17 | cmd18 | cmd24 | cmd25 | cmd55 | acmd41 | cmd58 | cmd59
      | tokStartMulti | tokStop =>
    exact ⟨s, rfl, parts_sendWord h⟩
  case r1 | r1b | r2 | r3 | r7 | dataResponse | dataError => exact ⟨s, rfl, parts_cardSends h⟩
  case tokStart =>
    have h : execTokStart s = .next t := h
    unfold execTokStart at h
    split at h
    · exact ⟨s, rfl, parts_cardSends h⟩
    · exact ⟨s, rfl, parts_sendWord h⟩
  all_goals exact absurd rfl hcall

/-- An event of the environment, a reset apart, leaves the block's registers; it leaves what the parts of a step may not change of the
environment but for the schedule. -/
structure EventRun (s t : State) : Prop where
  cfg : t.cfg = s.cfg
  sd : t.sd = s.sd
  op : t.op = s.op
  lg : t.lg = s.lg
  sh : t.sh = s.sh
  mem : memCanonical s = true → memCanonical t = true
  critical : t.env.critical = s.env.critical
  cardDetect : t.env.cardDetect = s.env.cardDetect
  cbQueue : t.env.cbQueue = s.env.cbQueue

theorem EventRun.of_env {s t : State} (h : t = { s with env := t.env }) (hcritical : t.env.critical = s.env.critical)
    (hcard : t.env.cardDetect = s.env.cardDetect) (hqueue : t.env.cbQueue = s.env.cbQueue) : EventRun s t := by
  refine ⟨by rw [h], by rw [h], by rw [h], by rw [h], by rw [h], ?_, hcritical, hcard, hqueue⟩
  rw [memCanonical_congr (show t.mem = s.mem by rw [h])]
  exact id

theorem eventRun_callerStore {sp : Space} {a : Nat} {bytes : List Byte} {s t : State} (h : callerStore sp a bytes s = .ok t) :
    EventRun s t := by
  unfold callerStore at h
  split at h
  · obtain ⟨_, rfl⟩ := writeBytes_ok h
    exact ⟨rfl, rfl, rfl, rfl, rfl, memCanonical_poke _ _ _, rfl, rfl, rfl⟩
  · obtain ⟨_, rfl⟩ := writeBytes_ok h
    exact ⟨rfl, rfl, rfl, rfl, rfl, memCanonical_poke _ _ _, rfl, rfl, rfl⟩
  · cases h

/-- What an event of the environment does. -/
theorem environment_cases {ev : Event} {s t : State} (h : environment ev s = .ok t) :
    (ev = .reset ∧ t = resetBlock s) ∨ (ev ≠ .reset ∧ EventRun s t) := by
  cases ev
  case reset => cases h; exact .inl ⟨rfl, rfl⟩
  case store sp a bytes => exact .inr ⟨nofun, eventRun_callerStore h⟩
  case complete =>
    refine .inr ⟨nofun, ?_⟩
    cases h
    unfold completeTransfer
    split
    · exact .of_env rfl rfl rfl rfl
    · exact .of_env rfl rfl rfl rfl
  all_goals
    cases h
    exact .inr ⟨nofun, .of_env rfl rfl rfl rfl⟩

/-- A step with nothing to do, an event of the environment, or a sequence of parts. -/
theorem step_cases {s t : State} (h : step s = .next t) :
    t = s ∨
    (∃ ev u, s.env.agenda.head? = some ev ∧ Prepared s u ∧ (ev = .reset ∧ t = resetBlock u ∨ ev ≠ .reset ∧ EventRun u t)) ∨
    ∃ u, Prepared s u ∧ Parts u t := by
  unfold step at h
  split at h
  · cases h; exact .inl rfl
  next ev rest hagenda =>
    dsimp only at h
    split at h
    next ctx i _ =>
      split at h
      · obtain ⟨u, hu, hparts⟩ := parts_exec h
        refine .inr (.inr ⟨u, ?_, hparts⟩)
        unfold Prepared at hu ⊢
        rw [hu]
        rfl
      · cases h
    next ctx _ =>
      cases h
      exact .inr (.inr ⟨inContext ctx (s.onEnv fun e => { e with agenda := rest }), rfl, .one (part_putRet _ _)⟩)
    next => cases h
    next =>
      refine .inr (.inl ⟨ev, s.onEnv fun e => { e with agenda := rest }, by rw [hagenda]; rfl, rfl, ?_⟩)
      exact environment_cases (toOutcome_eq_next.mp h)

/-- An invariant every part keeps is kept by any sequence of parts. -/
theorem Parts.keep {I : State → Prop} (hI : ∀ {s t : State}, Part s t → I s → I t) {s t : State} (h : Parts s t) (hs : I s) : I t := by
  induction h with
  | refl => exact hs
  | tail _ hpart ih => exact hI hpart ih

end Sys2Proof.Machine
end

section
/-! What every step keeps: the canonical form of the memories, the insertion point's range, a selected flight, a stopped log engine, a terminal
SD engine, and the condition at a step boundary. -/

namespace Sys2Proof.Machine

/-! ### The canonical form -/

theorem memCanonical_part {s t : State} (h : Part s t) (hs : memCanonical s = true) : memCanonical t = true := by
  cases h with
  | handler h => exact (sdRun_sdHandler h).mem hs
  | deliver h => exact (sdRun_deliver h).mem hs
  | removal => exact (sdRun_removal s).mem hs
  | logHandler h => exact (logRun_logHandler hookRuns_preemptPoint h).mem hs
  | logRead => exact (logRun_logReadCb _ (callbackTaken s)).mem hs
  | logData _ _ h => exact (logRun_logDataCb hookRuns_preemptPoint h).mem hs
  | @logSb _ c => rw [(logSbCb_frame c (callbackTaken s)).1]; exact hs
  | toClient => exact hs
  | call h => exact (callRun_callFromCallback h).mem hs
  | records h => rw [h]; exact hs

theorem memCanonical_resetBlock {s : State} (h : memCanonical s = true) : memCanonical (resetBlock s) = true := by
  refine (memCanonical_iff _).mpr fun q => ?_
  cases q
  · exact (memCanonical_iff s).mp h .host
  · rfl
  · rfl

/-- Settles O52: every part of a step keeps the canonical form, and so does every event of the environment. -/
theorem stepKeepsMemoryCanonical : Obligations.StepKeepsMemoryCanonical := by
  unfold Obligations.StepKeepsMemoryCanonical
  intro s t hs hstep
  rcases step_cases hstep with rfl | ⟨ev, u, _, hu, ⟨_, rfl⟩ | ⟨_, hrun⟩⟩ | ⟨u, hu, hparts⟩
  · exact hs
  all_goals have hcanonical : memCanonical u = true := by rw [hu]; exact hs
  · exact memCanonical_resetBlock hcanonical
  · exact hrun.mem hcanonical
  · exact hparts.keep memCanonical_part hcanonical

/-! ### The insertion point -/

theorem ipInRange_congr {s t : State} (hcfg : t.cfg = s.cfg) (hsh : t.sh = s.sh) : ipInRange t = ipInRange s := by
  unfold ipInRange
  rw [hcfg, hsh]

/-- The parameters are these, within their ranges, and the insertion point is in range. -/
def ipHeld (p : Params) (s : State) : Prop := s.cfg = p ∧ p.wf = true ∧ ipInRange s = true

theorem ipHeld_of_sdRun {p : Params} {s t : State} (h : SdRun s t) (hs : ipHeld p s) : ipHeld p t :=
  ⟨h.cfg.trans hs.1, hs.2.1, (ipInRange_congr h.cfg h.sh).trans hs.2.2⟩

theorem ipHeld_of_logRun {p : Params} {s t : State} (h : LogRun s t) (hs : ipHeld p s) : ipHeld p t :=
  ⟨h.cfg.trans hs.1, hs.2.1, h.ip (hs.1 ▸ hs.2.1) hs.2.2⟩

theorem ipHeld_part {p : Params} {s t : State} (h : Part s t) (hs : ipHeld p s) : ipHeld p t := by
  cases h with
  | handler h => exact ipHeld_of_sdRun (sdRun_sdHandler h) hs
  | deliver h => exact ipHeld_of_sdRun (sdRun_deliver h) hs
  | removal => exact ipHeld_of_sdRun (sdRun_removal s) hs
  | logHandler h => exact ipHeld_of_logRun (logRun_logHandler hookRuns_preemptPoint h) hs
  | logRead => exact ipHeld_of_logRun (logRun_logReadCb _ (callbackTaken s)) hs
  | logData _ _ h => exact ipHeld_of_logRun (logRun_logDataCb hookRuns_preemptPoint h) hs
  | @logSb _ c => rw [(logSbCb_frame c (callbackTaken s)).1]; exact hs
  | toClient => exact hs
  | call h =>
    have hrun := callRun_callFromCallback h
    exact ⟨hrun.cfg.trans hs.1, hs.2.1, hrun.ip (hs.1 ▸ hs.2.1) hs.2.2⟩
  | records h => rw [h]; exact hs

/-- At reset the insertion point is null, in buffer 1 (R54). -/
theorem ipInRange_resetBlock (s : State) : ipInRange (resetBlock s) = true := by
  have hip : ipWellFormed Shared.reset.ip = true ∧ ipValid Shared.reset.ip = false := by decide
  show (ipWellFormed Shared.reset.ip && (!ipValid Shared.reset.ip || decide _)) = true
  rw [hip.1, hip.2]
  rfl

/-- Settles O53: every part of a step keeps the parameters and the insertion point's range. -/
theorem stepKeepsInsertionPoint : Obligations.StepKeepsInsertionPoint := by
  unfold Obligations.StepKeepsInsertionPoint
  intro s t hwf hip hstep
  rcases step_cases hstep with rfl | ⟨ev, u, _, hu, ⟨_, rfl⟩ | ⟨_, hrun⟩⟩ | ⟨u, hu, hparts⟩
  · exact ⟨hip, rfl⟩
  all_goals have hheld : ipHeld s.cfg u := by rw [hu]; exact ⟨rfl, hwf, hip⟩
  · exact ⟨ipInRange_resetBlock u, hheld.1⟩
  · exact ⟨(ipInRange_congr hrun.cfg hrun.sh).trans hheld.2.2, hrun.cfg.trans hheld.1⟩
  · have hend := hparts.keep ipHeld_part hheld
    exact ⟨hend.2.2, hend.1⟩

/-! ### The flight -/

/-- A callback owed to a persist. -/
def owesPersist (s : State) : Prop := ∃ c, s.env.cbQueue = some c ∧ c.cb = .logSb

/-- The condition on the flight, in words: selected, or relied on by nothing. -/
theorem flightHeld_iff (s : State) : flightHeld s = true ↔ s.lg.flightValid = true ∨
    (s.lg.state ≠ .active ∧ s.lg.state ≠ .paused ∧ ¬(s.op.valid = true ∧ s.op.cb = .logSb) ∧ ¬owesPersist s) := by
  unfold flightHeld owesPersist
  cases hqueue : s.env.cbQueue <;> cases hvalid : s.op.valid <;> simp [and_assoc]

theorem flightHeld_of_sdRun {s t : State} (h : SdRun s t) (hs : flightHeld s = true) : flightHeld t = true := by
  rw [flightHeld_iff] at hs ⊢
  rw [h.lg, h.cb]
  refine hs.imp_right fun ⟨hactive, hpaused, hop, howed⟩ => ⟨hactive, hpaused, ?_, ?_⟩
  · rintro ⟨hvalid, hcb⟩
    rcases h.queue with ⟨hv, _⟩ | ⟨_, hv, _⟩
    · exact hop ⟨hv ▸ hvalid, hcb⟩
    · rw [hvalid] at hv; cases hv
  · rintro ⟨c, hc, hcb⟩
    rcases h.queue with ⟨_, hq⟩ | ⟨hv, _, c', hc', hcb'⟩
    · exact howed ⟨c, hq ▸ hc, hcb⟩
    · rw [hc'] at hc
      cases hc
      exact hop ⟨hv, hcb' ▸ hcb⟩

/-- An operation started for a persist has its flight. -/
theorem flightHeld_of_starts {P : Cb → Prop} {s t : State} (hengine : KeepsOrStarts P s t)
    (hP : P .logSb → t.lg.flightValid = true) (hqueue : t.env.cbQueue = s.env.cbQueue)
    (hflight : s.lg.flightValid = true → t.lg.flightValid = true)
    (hstate : t.lg.flightValid = true ∨ t.lg.state = s.lg.state ∨ (t.lg.state ≠ .active ∧ t.lg.state ≠ .paused))
    (hs : flightHeld s = true) : flightHeld t = true := by
  rw [flightHeld_iff] at hs ⊢
  rcases hs with hs | ⟨hactive, hpaused, hop, howed⟩
  · exact .inl (hflight hs)
  rcases hstate with hvalid | hstate
  · exact .inl hvalid
  have hstate : t.lg.state ≠ .active ∧ t.lg.state ≠ .paused := by
    rcases hstate with e | hstate
    · rw [e]; exact ⟨hactive, hpaused⟩
    · exact hstate
  have howed : ¬owesPersist t := by
    unfold owesPersist at howed ⊢
    rw [hqueue]
    exact howed
  rcases hengine with ⟨_, e⟩ | ⟨_, dir, addr, count, buf, cb, ctx, hcb, _, e⟩
  · rw [e]; exact .inr ⟨hstate.1, hstate.2, hop, howed⟩
  · by_cases hpersist : cb = .logSb
    · exact .inl (hP (hpersist ▸ hcb))
    · exact .inr ⟨hstate.1, hstate.2, fun hop' => hpersist (by rw [← hop'.2, e]; rfl), howed⟩

theorem flightHeld_of_logRun {s t : State} (h : LogRun s t) (hs : flightHeld s = true) : flightHeld t = true :=
  flightHeld_of_starts h.engine (fun hP => hP rfl) (by rw [h.env]) h.flight h.held hs

theorem flightHeld_callbackTaken {s : State} (hs : flightHeld s = true) : flightHeld (callbackTaken s) = true := by
  rw [flightHeld_iff] at hs ⊢
  exact hs.imp_right fun ⟨hactive, hpaused, hop, _⟩ => ⟨hactive, hpaused, hop, fun ⟨_, hc, _⟩ => nomatch hc⟩

theorem flightHeld_congr {s t : State} (hlg : t.lg = s.lg) (hop : t.op = s.op) (hqueue : t.env.cbQueue = s.env.cbQueue) :
    flightHeld t = flightHeld s := by
  unfold flightHeld
  rw [hlg, hop, hqueue]

theorem flightHeld_part {s t : State} (h : Part s t) (hs : flightHeld s = true) : flightHeld t = true := by
  cases h with
  | handler h => exact flightHeld_of_sdRun (sdRun_sdHandler h) hs
  | deliver h => exact flightHeld_of_sdRun (sdRun_deliver h) hs
  | removal => exact flightHeld_of_sdRun (sdRun_removal s) hs
  | logHandler h => exact flightHeld_of_logRun (logRun_logHandler hookRuns_preemptPoint h) hs
  | logRead => exact flightHeld_of_logRun (logRun_logReadCb _ (callbackTaken s)) (flightHeld_callbackTaken hs)
  | logData _ _ h => exact flightHeld_of_logRun (logRun_logDataCb hookRuns_preemptPoint h) (flightHeld_callbackTaken hs)
  | @logSb _ c hqueue hcb =>
    have hvalid := ((flightHeld_iff s).mp hs).resolve_right fun ⟨_, _, _, howed⟩ => howed ⟨c, hqueue, hcb⟩
    exact (flightHeld_iff _).mpr (.inl ((logSbCb_frame c (callbackTaken s)).2.trans hvalid))
  | toClient => exact flightHeld_callbackTaken hs
  | call h =>
    have hrun := callRun_callFromCallback h
    rw [flightHeld_iff] at hs
    rcases hs with hs | ⟨hactive, hpaused, hop, howed⟩
    · exact (flightHeld_iff t).mpr (.inl (hrun.flight.trans hs))
    · refine flightHeld_of_starts hrun.engine (fun hP => nomatch hP) (by rw [hrun.env]) (fun h => hrun.flight.trans h) (.inr ?_)
        ((flightHeld_iff s).mpr (.inr ⟨hactive, hpaused, hop, howed⟩))
      exact .inl (hrun.state.resolve_right fun ⟨h, _⟩ => hpaused h)
  | records h => rw [flightHeld_congr (s := s) (by rw [h]) (by rw [h]) (by rw [h])]; exact hs

/-- Settles O56: every part of a step keeps a flight selected wherever the log engine relies on one. -/
theorem stepKeepsFlightValid : Obligations.StepKeepsFlightValid := by
  unfold Obligations.StepKeepsFlightValid
  intro s t hs hstep
  rcases step_cases hstep with rfl | ⟨ev, u, _, hu, ⟨_, rfl⟩ | ⟨_, hrun⟩⟩ | ⟨u, hu, hparts⟩
  · exact hs
  all_goals have hheld : flightHeld u = true := by rw [hu]; exact hs
  · rfl
  · rw [flightHeld_congr hrun.lg hrun.op hrun.cbQueue]; exact hheld
  · exact hparts.keep flightHeld_part hheld

/-! ### A stopped log engine -/

/-- The condition on a stopped log engine, in words. -/
theorem logStopped_iff (s : State) : logStopped s = true ↔ s.lg.state.terminal = true ∧
    (s.op.valid = true → s.op.cb.isClient = true) ∧ (∀ c, s.env.cbQueue = some c → c.cb.isClient = true) := by
  unfold logStopped
  cases hqueue : s.env.cbQueue <;> cases hvalid : s.op.valid <;> simp [and_assoc]

/-- Stopped in this state with this cause. -/
def stoppedAs (st : LogState) (e : Err) (s : State) : Prop := logStopped s = true ∧ s.lg.state = st ∧ s.lg.failReason = e

theorem stoppedAs_of_sdRun {st : LogState} {e : Err} {s t : State} (h : SdRun s t) (hs : stoppedAs st e s) : stoppedAs st e t := by
  obtain ⟨hstopped, hstate, hreason⟩ := hs
  refine ⟨?_, by rw [h.lg]; exact hstate, by rw [h.lg]; exact hreason⟩
  rw [logStopped_iff] at hstopped ⊢
  obtain ⟨hterminal, hop, hqueue⟩ := hstopped
  rw [h.lg, h.cb]
  refine ⟨hterminal, ?_, ?_⟩
  · intro hvalid
    rcases h.queue with ⟨hv, _⟩ | ⟨_, hv, _⟩
    · exact hop (hv ▸ hvalid)
    · rw [hvalid] at hv; cases hv
  · intro c hc
    rcases h.queue with ⟨_, hq⟩ | ⟨hv, _, c', hc', hcb⟩
    · exact hqueue c (hq ▸ hc)
    · rw [hc'] at hc
      cases hc
      rw [hcb]
      exact hop hv

/-- In a terminal state the log engine's handler does nothing (R399). -/
theorem logHandler_terminal {pre : Hook} {s : State} (h : s.lg.state.terminal = true) : logHandler pre s = .ok (.yield, s) := by
  unfold logHandler
  cases hstate : s.lg.state
  case tooManyRetries | noValidTable | noValidPartition | outOfSpace | failed => rfl
  all_goals simp [hstate, LogState.terminal] at h

theorem stoppedAs_part {st : LogState} {e : Err} {s t : State} (h : Part s t) (hs : stoppedAs st e s) : stoppedAs st e t := by
  obtain ⟨hterminal, hop, hqueue⟩ := (logStopped_iff s).mp hs.1
  cases h with
  | handler h => exact stoppedAs_of_sdRun (sdRun_sdHandler h) hs
  | deliver h => exact stoppedAs_of_sdRun (sdRun_deliver h) hs
  | removal => exact stoppedAs_of_sdRun (sdRun_removal s) hs
  | logHandler h => rw [logHandler_terminal hterminal] at h; cases h; exact hs
  | logRead hc hcb => have hclient := hqueue _ hc; rw [hcb] at hclient; cases hclient
  | logData hc hcb => have hclient := hqueue _ hc; rw [hcb] at hclient; cases hclient
  | logSb hc hcb => have hclient := hqueue _ hc; rw [hcb] at hclient; cases hclient
  | toClient => exact ⟨(logStopped_iff _).mpr ⟨hterminal, hop, fun _ hc => nomatch hc⟩, hs.2⟩
  | call h =>
    have hrun := callRun_callFromCallback h
    have hstate : t.lg.state = s.lg.state := hrun.state.resolve_right fun ⟨hpaused, _⟩ => by rw [hpaused] at hterminal; cases hterminal
    refine ⟨(logStopped_iff t).mpr ⟨hstate ▸ hterminal, ?_, ?_⟩, hstate.trans hs.2.1, hrun.reason.trans hs.2.2⟩
    · rcases hrun.engine with ⟨_, e⟩ | ⟨_, dir, addr, count, buf, cb, ctx, hcb, _, e⟩ <;> rw [e]
      · exact hop
      · exact fun _ => hcb
    · rw [hrun.env]; exact hqueue
  | records h => rw [h]; exact hs

/-- Settles O57: every part of a step keeps a stopped log engine stopped, with its cause. -/
theorem terminalLogStateLasts : Obligations.TerminalLogStateLasts := by
  unfold Obligations.TerminalLogStateLasts
  intro s t hs hreset hstep
  show stoppedAs s.lg.state s.lg.failReason t
  rcases step_cases hstep with rfl | ⟨ev, u, hev, hu, ⟨rfl, _⟩ | ⟨_, hrun⟩⟩ | ⟨u, hu, hparts⟩
  · exact ⟨hs, rfl, rfl⟩
  · exact absurd hev hreset
  · have hlg : t.lg = s.lg := hrun.lg.trans (by rw [hu])
    have hop : t.op = s.op := hrun.op.trans (by rw [hu])
    have hqueue : t.env.cbQueue = s.env.cbQueue := hrun.cbQueue.trans (by rw [hu])
    refine ⟨?_, by rw [hlg], by rw [hlg]⟩
    rw [logStopped_iff] at hs ⊢
    rw [hlg, hop, hqueue]
    exact hs
  · refine hparts.keep stoppedAs_part ?_
    rw [hu]
    exact ⟨hs, rfl, rfl⟩

/-! ### A terminal SD engine -/

/-- In this state, or absent with no card in the slot. -/
def inStateOrGone (st : SdState) (s : State) : Prop := s.sd.state = st ∨ (s.sd.state = .absent ∧ s.env.cardDetect = false)

/-- In a terminal state, or with no card and none there before, the handler does nothing (R247, R278). -/
theorem sdHandler_terminal {st : SdState} (hst : st.terminal = true) {s : State} {r : Ctl × State} (hs : inStateOrGone st s)
    (h : sdHandler s = .ok r) : r.2 = s := by
  unfold sdHandler at h
  split at h
  · cases h
  rcases hs with hstate | ⟨hstate, hcard⟩
  · rw [hstate] at h
    cases st
    case failRetries | unusable | failed => cases h; rfl
    all_goals cases hst
  · rw [hstate, hcard] at h
    cases h
    rfl

theorem state_deliver {s t : State} (h : deliver s = .ok t) : t.sd.state = s.sd.state ∧ t.env = s.env := by
  rcases deliver_cases h with ⟨_, rfl⟩ | ⟨_, rfl⟩ | ⟨_, u, hu, rfl⟩
  · exact ⟨rfl, rfl⟩
  · exact ⟨rfl, rfl⟩
  · have htook := took_takeBytes hu
    refine ⟨?_, htook.env⟩
    show u.sd.state = _
    rw [htook.sd]

theorem state_removal (s : State) : (removal s).sd.state = .absent ∧ (removal s).env.cardDetect = s.env.cardDetect := by
  unfold removal
  dsimp only
  split <;> exact ⟨rfl, rfl⟩

/-- An engine that is not ready starts no operation. -/
theorem inStateOrGone_of_starts {P : Cb → Prop} {st : SdState} (hst : st.terminal = true) {s t : State} (h : KeepsOrStarts P s t)
    (hcard : t.env.cardDetect = s.env.cardDetect) (hs : inStateOrGone st s) : inStateOrGone st t := by
  rcases h with ⟨e, _⟩ | ⟨hready, _⟩
  · unfold inStateOrGone at hs ⊢
    rw [e, hcard]
    exact hs
  · rcases hs with hstate | ⟨hstate, _⟩ <;> rw [hready] at hstate
    · rw [← hstate] at hst; cases hst
    · cases hstate

theorem inStateOrGone_part {st : SdState} (hst : st.terminal = true) {s t : State} (h : Part s t) (hs : inStateOrGone st s) :
    inStateOrGone st t := by
  cases h with
  | handler h => rw [sdHandler_terminal hst hs h]; exact hs
  | deliver h =>
    obtain ⟨hstate, henv⟩ := state_deliver h
    unfold inStateOrGone at hs ⊢
    rw [hstate, henv]
    exact hs
  | removal hcard => exact .inr ⟨(state_removal s).1, (state_removal s).2.trans hcard⟩
  | logHandler h =>
    have hrun := logRun_logHandler hookRuns_preemptPoint h
    exact inStateOrGone_of_starts hst hrun.engine (by rw [hrun.env]) hs
  | @logRead _ c =>
    have hrun := logRun_logReadCb c (callbackTaken s)
    exact inStateOrGone_of_starts hst hrun.engine (by rw [hrun.env]) (s := callbackTaken s) hs
  | logData _ _ h =>
    have hrun := logRun_logDataCb hookRuns_preemptPoint h
    exact inStateOrGone_of_starts hst hrun.engine (by rw [hrun.env]) (s := callbackTaken s) hs
  | @logSb _ c => rw [(logSbCb_frame c (callbackTaken s)).1]; exact hs
  | toClient => exact hs
  | call h =>
    have hrun := callRun_callFromCallback h
    exact inStateOrGone_of_starts hst hrun.engine (by rw [hrun.env]) hs
  | records h => rw [h]; exact hs

/-- A terminal engine admits nothing. -/
theorem admits_terminal {s : State} (h : s.sd.state.terminal = true) (addr count : U32) : admits s addr count = false := by
  refine (admits_eq_false_iff s addr count).mpr (.inl fun hready => ?_)
  rw [hready] at h
  cases h

/-- Settles O58: no part of a step leaves a terminal state but a removal, and nothing is admitted in one. -/
theorem terminalSdStateLasts : Obligations.TerminalSdStateLasts := by
  unfold Obligations.TerminalSdStateLasts
  refine ⟨fun s t hs hreset hstep => ?_, fun s addr count buf cb ctx hs => ?_⟩
  · rcases step_cases hstep with rfl | ⟨ev, u, hev, hu, ⟨rfl, _⟩ | ⟨_, hrun⟩⟩ | ⟨u, hu, hparts⟩
    · exact .inl rfl
    · exact absurd hev hreset
    · exact .inl (by rw [hrun.sd, hu])
    · exact hparts.keep (inStateOrGone_part hs) (.inl (by rw [hu]))
  · rw [exec_read, exec_write, startOp_of_not_admits (admits_terminal hs addr count), startOp_of_not_admits (admits_terminal hs addr count)]
    exact ⟨rfl, rfl⟩

/-! ### The boundary -/

theorem critical_of_logRun {s t : State} (h : LogRun s t) (hs : s.env.critical = false) : t.env.critical = false := h.critical hs

theorem critical_part {s t : State} (h : Part s t) (hs : s.env.critical = false) : t.env.critical = false := by
  cases h with
  | handler h => rw [(sdRun_sdHandler h).env]; exact hs
  | deliver h => rw [(sdRun_deliver h).env]; exact hs
  | removal => rw [(sdRun_removal s).env]; exact hs
  | logHandler h => exact (logRun_logHandler hookRuns_preemptPoint h).critical hs
  | @logRead _ c => exact (logRun_logReadCb c (callbackTaken s)).critical hs
  | logData _ _ h => exact (logRun_logDataCb hookRuns_preemptPoint h).critical hs
  | @logSb _ c => rw [(logSbCb_frame c (callbackTaken s)).1]; exact hs
  | toClient => exact hs
  | call h => rw [(callRun_callFromCallback h).env]; exact hs
  | records h => rw [h]; exact hs

theorem noneOwed_callbackCalls {calls : List Instr} {s t : State} (h : callbackCalls calls s = .ok t) (hs : s.env.cbQueue = none) :
    t.env.cbQueue = none := by
  induction calls generalizing s with
  | nil => cases h; exact hs
  | cons i rest ih =>
    rw [callbackCalls] at h
    obtain ⟨u, hu, h⟩ := bind_eq_ok h
    refine ih h ?_
    show u.env.cbQueue = none
    rw [(callRun_callFromCallback (ofOutcome_eq_ok.mp hu)).env]
    exact hs

/-- After the callback none is owed. -/
theorem noneOwed_runCallback {s t : State} (h : runCallback s = .ok t) : t.env.cbQueue = none := by
  unfold runCallback at h
  split at h
  next hqueue => cases h; exact hqueue
  next c hqueue =>
    dsimp only at h
    split at h
    · cases h
      have hrun := logRun_logReadCb c (callbackTaken s)
      show (logReadCb c (callbackTaken s)).env.cbQueue = none
      rw [hrun.env]
      rfl
    · rw [(logRun_logDataCb hookRuns_preemptPoint h).env]
      rfl
    · cases h
      show (logSbCb c (callbackTaken s)).env.cbQueue = none
      rw [(logSbCb_frame c (callbackTaken s)).1]
      rfl
    · exact noneOwed_callbackCalls h rfl

theorem noneOwed_pollRound {s : State} {r : Ctl × State} (h : pollRound s = .ok r) : r.2.env.cbQueue = none := by
  obtain ⟨b, _, hcallback, _⟩ := pollRound_cases h
  exact noneOwed_runCallback hcallback

theorem noneOwed_pollLoop {fuel : Nat} {s t : State} (h : pollLoop fuel s = .ok t) : t.env.cbQueue = none := by
  induction fuel generalizing s with
  | zero => cases h
  | succ fuel ih =>
    obtain ⟨⟨c, u⟩, hu, h⟩ := bind_eq_ok h
    dsimp only at h
    split at h
    · exact ih h
    · cases h; exact noneOwed_pollRound hu

theorem noneOwed_logLoop {fuel : Nat} {s t : State} (h : logLoop preemptPoint fuel s = .ok t) (hs : s.env.cbQueue = none) :
    t.env.cbQueue = none := by
  induction fuel generalizing s with
  | zero => cases h
  | succ fuel ih =>
    obtain ⟨⟨c, u⟩, hu, h⟩ := bind_eq_ok h
    have hqueue : u.env.cbQueue = none := by rw [(logRun_logHandler hookRuns_preemptPoint hu).env]; exact hs
    dsimp only at h
    split at h
    · exact ih h hqueue
    · cases h; exact hqueue

theorem noneOwed_sendWord {selected : Bool} {s t : State} (h : sendWord selected s = .next t) (hs : s.env.cbQueue = none) :
    t.env.cbQueue = none := by
  have h := toOutcome_eq_next.mp h
  split at h
  · obtain ⟨_, _, h⟩ := bind_eq_ok h
    exact noneOwed_runCallback h
  · cases h; exact hs

theorem noneOwed_cardSends {word : List Byte} {s t : State} (h : cardSends word s = .next t) (hs : s.env.cbQueue = none) :
    t.env.cbQueue = none := by
  have h := toOutcome_eq_next.mp h
  split at h
  · obtain ⟨⟨c, u⟩, hu, h⟩ := bind_eq_ok h
    dsimp only at h
    split at h
    · obtain ⟨_, hv, h⟩ := bind_eq_ok h
      cases h
      exact noneOwed_pollRound hv
    · cases h; exact noneOwed_pollRound hu
  · cases h; exact hs

theorem noneOwed_exec {i : Instr} {s t : State} (h : exec i s = .next t) (hs : s.env.cbQueue = none) : t.env.cbQueue = none := by
  by_cases hcall : isCall i = true
  · rw [exec_of_isCall hcall] at h
    rw [(callRun_callFromCallback h).env]
    exact hs
  cases i
  case sdService now cardDetect =>
    have h := toOutcome_eq_next.mp h
    cases hpoll : sdPoll now cardDetect s with
    | error e => rw [hpoll] at h; cases h
    | ok u =>
      rw [hpoll] at h
      cases h
      rw [putRet_env]
      exact noneOwed_pollLoop hpoll
  case logService now =>
    have h := toOutcome_eq_next.mp h
    cases hpoll : logLoop preemptPoint 8 (s.onEnv fun e => { e with now := now }) with
    | error e => rw [hpoll] at h; cases h
    | ok u =>
      rw [hpoll] at h
      cases h
      rw [putRet_env]
      exact noneOwed_logLoop hpoll hs
  case cmd0 | cmd1 | cmd8 | cmd9 | cmd12 | cmd13 | cmd16 | cmd17 | cmd18 | cmd24 | cmd25 | cmd55 | acmd41 | cmd58 | cmd59
      | tokStartMulti | tokStop =>
    exact noneOwed_sendWord h hs
  case r1 | r1b | r2 | r3 | r7 | dataResponse | dataError => exact noneOwed_cardSends h hs
  case tokStart =>
    have h : execTokStart s = .next t := h
    unfold execTokStart at h
    split at h
    · exact noneOwed_cardSends h hs
    · exact noneOwed_sendWord h hs
  all_goals exact absurd rfl hcall

theorem atBoundary_iff (s : State) : atBoundary s = true ↔ s.env.critical = false ∧ s.env.cbQueue = none := by
  unfold atBoundary
  simp

/-- A step that owes no callback owes none after it. -/
theorem noneOwed_step {s t : State} (h : step s = .next t) (hs : s.env.cbQueue = none) : t.env.cbQueue = none := by
  unfold step at h
  split at h
  · cases h; exact hs
  next ev rest _ =>
    dsimp only at h
    split at h
    next ctx i _ =>
      split at h
      · exact noneOwed_exec h hs
      · cases h
    next => cases h; rw [putCode, putRet_env]; exact hs
    next => cases h
    next =>
      rcases environment_cases (toOutcome_eq_next.mp h) with ⟨_, rfl⟩ | ⟨_, hrun⟩
      · rfl
      · exact hrun.cbQueue.trans hs

/-- Settles O55: every part of a step leaves the critical section free, and every callback requested is made in its round. -/
theorem stepKeepsBoundary : Obligations.StepKeepsBoundary := by
  unfold Obligations.StepKeepsBoundary
  intro s t hs hstep
  rw [atBoundary_iff] at hs ⊢
  refine ⟨?_, noneOwed_step hstep hs.2⟩
  rcases step_cases hstep with rfl | ⟨ev, u, _, hu, ⟨_, rfl⟩ | ⟨_, hrun⟩⟩ | ⟨u, hu, hparts⟩
  · exact hs.1
  all_goals have hfree : u.env.critical = false := by rw [hu]; exact hs.1
  · rfl
  · exact hrun.critical.trans hfree
  · exact hparts.keep critical_part hfree

/-! ### Reset -/

/-- Settles O60: the reset state is concrete, and so is every register a reset sets. -/
theorem invariantsHoldAtReset : Obligations.InvariantsHoldAtReset := by
  unfold Obligations.InvariantsHoldAtReset
  refine ⟨by decide, fun s rest hagenda => ?_⟩
  have hstep : step s = .next (resetBlock (s.onEnv fun e => { e with agenda := rest })) := by
    unfold step
    rw [hagenda]
    rfl
  exact ⟨_, hstep, rfl, rfl, rfl, rfl, rfl, rfl, rfl, rfl, rfl, rfl⟩

end Sys2Proof.Machine
end

section
/-! The reservation where no irq call arrives (45_reservation.md): each operation as an equation, and the obligations about quiet states. -/

namespace Sys2Proof.Machine

/-! ### Atomic steps that nothing precedes -/

/-- Nothing arrives at the atomic steps of an operation that changes the shared fields only. -/
def Still (pre : Hook) (s : State) : Prop := ∀ f : Shared → Shared, pre (s.onSh f) = .ok (s.onSh f)

theorem Still.here {pre : Hook} {s : State} (h : Still pre s) : pre s = .ok s := h id

theorem Still.onSh {pre : Hook} {s : State} (h : Still pre s) (f : Shared → Shared) : Still pre (s.onSh f) := fun g => h (g ∘ f)

theorem still_noPreempt (s : State) : Still noPreempt s := fun _ => rfl

theorem still_of_quiet {s : State} (h : quiet s = true) : Still preemptPoint s := fun _ => preemptPoint_quiet h

/-! ### `checkout` -/

/-- The state after a grant of `len` bytes at the insertion point (R431 steps 2 to 4). -/
def grantedAt (len : Nat) (s : State) : State :=
  addCount (ipIdx s.sh.ip) (BitVec.ofNat 32 len)
    (storeIp (mkIp true (ipIdx s.sh.ip) (ipOff s.sh.ip + len)) (addCheckout (ipIdx s.sh.ip) s))

/-- The state after the insertion point went to buffer `j` (R431 steps 8 to 10). -/
def switchedTo (j : Nat) (s : State) : State :=
  if ipValid s.sh.ip && (s.sh.buf (ipIdx s.sh.ip)).count != 0 then storePending (ipIdx s.sh.ip) true (storeIp (mkIp true j 0) s)
  else storeIp (mkIp true j 0) s

/-- The first candidate that holds no bytes (R431 step 6). -/
def emptyCandidate (s : State) : Option Nat :=
  (candidates (ipValid s.sh.ip) (ipIdx s.sh.ip)).find? fun k => (s.sh.buf k).count == 0

section
variable {pre : Hook} {s : State} (hstill : Still pre s)
include hstill

theorem firstEmpty_still (ks : List Nat) : firstEmpty pre ks s = .ok (ks.find? fun k => (s.sh.buf k).count == 0, s) := by
  induction ks with
  | nil => rfl
  | cons k rest ih =>
    rw [firstEmpty, hstill.here]
    by_cases hempty : (s.sh.buf k).count = 0#32
    · simp [bind, Except.bind, hempty]
    · simp [bind, Except.bind, hempty, ih]

theorem vacate_still (v : Bool) (i : Nat) :
    vacate pre v i s = .ok (if v && (s.sh.buf i).count != 0 then storePending i true s else s) := by
  unfold vacate
  cases v with
  | false => rfl
  | true =>
    by_cases hempty : (s.sh.buf i).count = 0#32
    · simp [hstill.here, bind, Except.bind, hempty]
    · simp [hstill.here, bind, Except.bind, hempty]

/-- With room at the insertion point the first round grants. -/
theorem checkoutLoop_room (len fuel : Nat) (hwf : ipWellFormed s.sh.ip = true) (hroom : hasRoom s.cfg len s.sh.ip = true) :
    checkoutLoop pre len (fuel + 1) s.sh.ip s =
      .ok (.handle (handleOf s.cfg.logBufCap (ipIdx s.sh.ip) (ipOff s.sh.ip)), grantedAt len s) := by
  have hstep3 : pre (addCheckout (ipIdx s.sh.ip) s) = .ok (addCheckout (ipIdx s.sh.ip) s) := hstill _
  have hstep4 : pre (storeIp (mkIp true (ipIdx s.sh.ip) (ipOff s.sh.ip + len)) (addCheckout (ipIdx s.sh.ip) s)) =
      .ok (storeIp (mkIp true (ipIdx s.sh.ip) (ipOff s.sh.ip + len)) (addCheckout (ipIdx s.sh.ip) s)) := (hstill.onSh _) _
  unfold hasRoom at hroom
  rw [checkoutLoop, hwf, hroom, hstill.here]
  simp only [bind, Except.bind, hstep3, addCheckout_sh, Shared.setBuf_ip, Bool.not_true, Bool.false_eq_true, if_false, if_true, hstep4]
  rfl

/-- With no room and no empty candidate the first round refuses and counts the miss (R431 step 7). -/
theorem checkoutLoop_full (len fuel : Nat) (hwf : ipWellFormed s.sh.ip = true) (hroom : hasRoom s.cfg len s.sh.ip = false)
    (hfull : emptyCandidate s = none) :
    checkoutLoop pre len (fuel + 1) s.sh.ip s = .ok (.refused .outOfSpace, addMissed s) := by
  unfold hasRoom at hroom
  unfold emptyCandidate at hfull
  rw [checkoutLoop, hwf, hroom, firstEmpty_still hstill, hfull]
  simp only [bind, Except.bind, hstill.here, Bool.not_true, Bool.false_eq_true, if_false]

/-- With no room and an empty candidate the first round switches to it. -/
theorem checkoutLoop_switch (len fuel : Nat) {j : Nat} (hwf : ipWellFormed s.sh.ip = true)
    (hroom : hasRoom s.cfg len s.sh.ip = false) (hempty : emptyCandidate s = some j) :
    checkoutLoop pre len (fuel + 1) s.sh.ip s = checkoutLoop pre len fuel (switchedTo j s).sh.ip (switchedTo j s) := by
  have hstore : Still pre (storeIp (mkIp true j 0) s) := hstill.onSh _
  have hip : (switchedTo j s).sh.ip = mkIp true j 0 := by
    unfold switchedTo
    split
    · exact Shared.setBuf_ip _ _ _
    · rfl
  unfold hasRoom at hroom
  unfold emptyCandidate at hempty
  rw [hip, checkoutLoop, hwf, hroom, firstEmpty_still hstill, hempty]
  simp only [bind, Except.bind, hstill.here, Bool.not_true, Bool.false_eq_true, if_false, if_true, vacate_still hstore]
  rfl

omit hstill in
/-- At the start of a buffer every admitted length has room. -/
theorem hasRoom_start (p : Params) {j len : Nat} (hj : j < 2) (hlen : len ≤ p.logBufCap) : hasRoom p len (mkIp true j 0) = true := by
  obtain ⟨_, hvalid, _, hoff⟩ := mkIp_fields j 0 hj (by decide)
  simp only [hasRoom, hvalid, hoff, Bool.true_and, decide_eq_true_eq]
  omega

omit hstill in
theorem switchedTo_ip (j : Nat) (s : State) : (switchedTo j s).sh.ip = mkIp true j 0 := by
  unfold switchedTo
  split
  · exact Shared.setBuf_ip _ _ _
  · rfl

omit hstill in
theorem switchedTo_onSh (j : Nat) (s : State) : switchedTo j s = s.onSh fun _ => (switchedTo j s).sh := by
  unfold switchedTo
  split <;> rfl

omit hstill in
theorem emptyCandidate_mem {j : Nat} (h : emptyCandidate s = some j) :
    j ∈ candidates (ipValid s.sh.ip) (ipIdx s.sh.ip) ∧ (s.sh.buf j).count = 0 := by
  unfold emptyCandidate at h
  exact ⟨List.mem_of_find?_eq_some h, by simpa using List.find?_some h⟩

/-- A checkout of an admitted length: granted at the insertion point, granted at an empty buffer, or refused for want of space (R431). -/
theorem checkoutWith_still {len : Nat} (hlen : len ≠ 0) (hcap : len ≤ s.cfg.logBufCap) (hwf : ipWellFormed s.sh.ip = true) :
    checkoutWith pre len s = .ok
      (if hasRoom s.cfg len s.sh.ip then
        (.handle (handleOf s.cfg.logBufCap (ipIdx s.sh.ip) (ipOff s.sh.ip)), grantedAt len s)
      else
        match emptyCandidate s with
        | none => (.refused .outOfSpace, addMissed s)
        | some j => (.handle (handleOf s.cfg.logBufCap j 0), grantedAt len (switchedTo j s))) := by
  unfold checkoutWith
  rw [if_neg (by omega)]
  simp only [bind, Except.bind, hstill.here]
  cases hroom : hasRoom s.cfg len s.sh.ip with
  | true => rw [if_pos rfl, checkoutLoop_room hstill len _ hwf hroom]
  | false =>
    rw [if_neg (by decide)]
    cases hempty : emptyCandidate s with
    | none => rw [checkoutLoop_full hstill len _ hwf hroom hempty]
    | some j =>
      have hj : j < 2 := candidates_lt (ipIdx_lt hwf) (emptyCandidate_mem hempty).1
      obtain ⟨hform, _, hidx, hoff⟩ := mkIp_fields j 0 hj (by decide)
      have hstill' : Still pre (switchedTo j s) := by
        rw [switchedTo_onSh]
        exact hstill.onSh _
      have hcfg : (switchedTo j s).cfg = s.cfg := by rw [switchedTo_onSh]; rfl
      rw [checkoutLoop_switch hstill len _ hwf hroom hempty,
        checkoutLoop_room hstill' len _ (by rw [switchedTo_ip]; exact hform) (by rw [switchedTo_ip, hcfg]; exact hasRoom_start _ hj hcap)]
      rw [switchedTo_ip, hidx, hoff, hcfg]

omit hstill in
/-- A length that no buffer can hold is refused before anything is read (R508). -/
theorem checkoutWith_rejected {len : Nat} (h : len = 0 ∨ s.cfg.logBufCap < len) :
    checkoutWith pre len s = .ok (.refused .rejected, s) := by
  unfold checkoutWith
  rw [if_pos h]

end

/-! ### The shared fields after a grant -/

/-- A grant changes the shared fields only. -/
theorem grantedAt_eq (len : Nat) (s : State) : grantedAt len s = { s with sh :=
    { s.sh.setBuf (ipIdx s.sh.ip) (fun b => { b with count := b.count + BitVec.ofNat 32 len, checkouts := b.checkouts + 1 }) with
      ip := mkIp true (ipIdx s.sh.ip) (ipOff s.sh.ip + len) } } := by
  unfold grantedAt addCount storeIp addCheckout State.onSh
  dsimp only
  unfold Shared.setBuf
  split <;> rfl

theorem exec_checkout (len : U32) (s : State) : exec (.checkout len) s = toOutcome (doCheckout preemptPoint len s) := rfl

theorem doCheckout_of {pre : Hook} {len : U32} {s t : State} {g : Grant} (h : checkoutWith pre len.toNat s = .ok (g, t)) :
    doCheckout pre len s = .ok (putRet g.ret t) := by
  unfold doCheckout
  rw [h]
  rfl

/-- The other buffer of two. -/
theorem other_eq {i : Nat} (hi : i < 2) : (i + 1) % Config.nBuf = 1 - i := by
  show (i + 1) % 2 = 1 - i
  omega

/-- Settles O15: a length no buffer holds is refused at once; with no room and no empty candidate step 7 is reached. -/
theorem checkoutRefused : Obligations.CheckoutRefused := by
  unfold Obligations.CheckoutRefused
  intro s len
  refine ⟨fun hlen => ?_, fun hlen hcap hquiet hwf hroom hother hself => ?_⟩
  · have hlen : len.toNat = 0 ∨ s.cfg.logBufCap < len.toNat := hlen.imp_left fun h => by rw [h]; rfl
    rw [exec_checkout, doCheckout_of (checkoutWith_rejected hlen)]
    rfl
  · have hlen : len.toNat ≠ 0 := fun h => hlen (BitVec.eq_of_toNat_eq h)
    have hnoroom : hasRoom s.cfg len.toNat s.sh.ip = false := by
      unfold hasRoom
      cases hvalid : ipValid s.sh.ip with
      | false => rfl
      | true => simpa using hroom hvalid
    have hfull : emptyCandidate s = none := by
      unfold emptyCandidate candidates
      rw [other_eq (ipIdx_lt hwf)]
      cases hvalid : ipValid s.sh.ip with
      | false => simp_all
      | true => simp_all
    have hcheckout := checkoutWith_still (still_of_quiet hquiet) hlen hcap hwf
    rw [hnoroom, hfull] at hcheckout
    rw [exec_checkout, doCheckout_of hcheckout]
    rfl

/-- The candidate a switch goes to, as the rule orders them. -/
theorem emptyCandidate_eq {s : State} {j : Nat} (hwf : ipWellFormed s.sh.ip = true) (hempty : (s.sh.buf j).count = 0)
    (hj : if ipValid s.sh.ip then j = 1 - ipIdx s.sh.ip
      else j = 1 - ipIdx s.sh.ip ∨ (j = ipIdx s.sh.ip ∧ (s.sh.buf (1 - ipIdx s.sh.ip)).count ≠ 0)) :
    emptyCandidate s = some j := by
  unfold emptyCandidate candidates
  rw [other_eq (ipIdx_lt hwf)]
  cases hvalid : ipValid s.sh.ip <;> rw [hvalid] at hj
  · rcases hj with rfl | ⟨rfl, hother⟩
    · simp [hempty]
    · simp_all
  · simp only [if_true] at hj
    subst hj
    simp [hempty]

/-- The shared fields after a switch and a grant, as one update of each buffer (R431). -/
theorem grantedAt_switchedTo {s : State} {j : Nat} (len : U32) (hwf : ipWellFormed s.sh.ip = true) (hj : j < 2)
    (hvalid : ipValid s.sh.ip = true → j = 1 - ipIdx s.sh.ip) (hempty : (s.sh.buf j).count = 0) :
    grantedAt len.toNat (switchedTo j s) = { s with sh :=
      { (s.sh.setBuf (1 - j) (fun b => { b with pending := b.pending || (ipValid s.sh.ip && b.count != 0) })).setBuf j
          (fun b => { b with count := len, checkouts := b.checkouts + 1 }) with ip := mkIp true j len.toNat } } := by
  obtain ⟨_, _, hidx, hoff⟩ := mkIp_fields j 0 hj (by decide)
  have hi := ipIdx_lt hwf
  rw [grantedAt_eq, switchedTo_ip, hidx, hoff, BitVec.ofNat_toNat, BitVec.setWidth_eq, Nat.zero_add]
  unfold switchedTo
  cases hv : ipValid s.sh.ip with
  | false =>
    obtain rfl | rfl : j = 0 ∨ j = 1 := by omega
    · simp_all [storeIp, State.onSh, Shared.setBuf_zero, Shared.setBuf_one]
    · simp_all [storeIp, State.onSh, Shared.setBuf_zero, Shared.setBuf_one]
  | true =>
    have hj' := hvalid hv
    obtain hi0 | hi0 : ipIdx s.sh.ip = 0 ∨ ipIdx s.sh.ip = 1 := by omega
    all_goals
      subst hj'
      rw [hi0] at hempty ⊢
      split
      · simp_all [storeIp, storePending, State.onSh, Shared.setBuf_zero, Shared.setBuf_one]
      next hzero =>
        rw [Bool.true_and, bne_iff_ne, ne_eq, not_not] at hzero
        simp_all [storeIp, State.onSh, Shared.setBuf_zero, Shared.setBuf_one]
        rw [← hzero]

/-- Settles O16: with room the grant is at the insertion point, without it at the first empty candidate. -/
theorem checkoutGrants : Obligations.CheckoutGrants := by
  unfold Obligations.CheckoutGrants
  refine ⟨fun s len hlen hquiet hwf hvalid hroom => ?_, fun s len j hlen hcap hquiet hwf hempty hj => ?_⟩
  all_goals have hlen : len.toNat ≠ 0 := fun h => hlen (BitVec.eq_of_toNat_eq h)
  · have hroom : hasRoom s.cfg len.toNat s.sh.ip = true := by simp [hasRoom, hvalid, hroom]
    have hcap : len.toNat ≤ s.cfg.logBufCap := by
      simp only [hasRoom, hvalid, Bool.true_and, decide_eq_true_eq] at hroom
      omega
    have hcheckout := checkoutWith_still (still_of_quiet hquiet) hlen hcap hwf
    rw [hroom, if_pos rfl, grantedAt_eq, BitVec.ofNat_toNat, BitVec.setWidth_eq] at hcheckout
    rw [exec_checkout, doCheckout_of hcheckout]
    rfl
  · have hgoes : if ipValid s.sh.ip then j = 1 - ipIdx s.sh.ip
        else j = 1 - ipIdx s.sh.ip ∨ (j = ipIdx s.sh.ip ∧ (s.sh.buf (1 - ipIdx s.sh.ip)).count ≠ 0) := by
      split
      next hvalid => rw [if_pos hvalid] at hj; exact hj.2
      next hvalid => rw [if_neg hvalid] at hj; exact hj
    have hcandidate := emptyCandidate_eq hwf hempty hgoes
    have hnoroom : hasRoom s.cfg len.toNat s.sh.ip = false := by
      cases hvalid : ipValid s.sh.ip <;> rw [hvalid] at hj
      · simp [hasRoom, hvalid]
      · simpa [hasRoom, hvalid] using hj.1
    have hcheckout := checkoutWith_still (still_of_quiet hquiet) hlen hcap hwf
    rw [hnoroom, hcandidate] at hcheckout
    have hgrant := grantedAt_switchedTo len hwf (candidates_lt (ipIdx_lt hwf) (emptyCandidate_mem hcandidate).1)
      (fun hvalid => by rw [if_pos hvalid] at hgoes; exact hgoes) hempty
    rw [exec_checkout, doCheckout_of hcheckout]
    dsimp only
    rw [hgrant]
    rfl

/-! ### `checkin` -/

/-- Settles O20: the two refusals and the release, by R434's tests in their order. -/
theorem checkinReleases : Obligations.CheckinReleases := by
  unfold Obligations.CheckinReleases
  intro s h hquiet
  have hcap : Config.nBuf * s.cfg.logBufCap = 2 * s.cfg.logBufCap := rfl
  refine ⟨fun hout => ?_, fun hin hnone => ?_, fun hin hsome => ?_⟩
  all_goals show toOutcome (checkinWith preemptPoint h.toNat s >>= fun r => .ok (putCode r.1 r.2)) = _
  · rw [checkinWith, hcap, if_pos hout]
    rfl
  · rw [checkinWith, hcap, if_neg (by omega), preemptPoint_quiet hquiet]
    simp only [bind, Except.bind, hnone, if_true]
    rfl
  · rw [checkinWith, hcap, if_neg (by omega), preemptPoint_quiet hquiet]
    simp only [bind, Except.bind, hsome, if_false]
    rfl

end Sys2Proof.Machine
end

section
/-! Records appended to a buffer (45_reservation.md R436, R437): the copy of segments as one store, and `log` and `log_gather` where nothing
arrives. -/

namespace Sys2Proof.Machine

/-! ### Stores one after another -/

theorem Memory.writeList_append (m : Memory) (a : Nat) (xs ys : List Byte) :
    (m.writeList a xs).writeList (a + xs.length) ys = m.writeList a (xs ++ ys) := by
  induction xs generalizing m a with
  | nil => rfl
  | cons x xs ih =>
    simp only [Memory.writeList, List.cons_append, List.length_cons]
    rw [← ih, show a + 1 + xs.length = a + (xs.length + 1) by omega]

theorem State.poke_poke (s : State) (sp : Space) (a : Nat) (xs ys : List Byte) :
    (s.poke sp a xs).poke sp (a + xs.length) ys = s.poke sp a (xs ++ ys) := by
  unfold State.poke State.onMem
  cases sp <;> simp only [Mem.setSpace, Mem.space, Memory.writeList_append]

@[simp] theorem State.poke_nil (s : State) (sp : Space) (a : Nat) : s.poke sp a [] = s := by
  cases sp <;> rfl

@[simp] theorem State.length_peekList (s : State) (sp : Space) (a n : Nat) : (s.peekList sp a n).length = n :=
  Memory.length_readList _ _ _

/-- A store in another space is not seen. -/
theorem State.peekList_poke_other (s : State) {sp sp' : Space} (h : sp' ≠ sp) (a a' n : Nat) (bs : List Byte) :
    (s.poke sp a bs).peekList sp' a' n = s.peekList sp' a' n := by
  unfold State.peekList
  rw [State.poke_mem, Mem.space_setSpace_other _ _ _ _ h]

/-! ### Segments -/

/-- The bytes of the segments, one after another. -/
def segmentBytes (s : State) (segs : List (HostAddr × U32)) : List Byte := segs.flatMap fun x => s.peekList .host x.1.toNat x.2.toNat

theorem segmentBytes_cons (s : State) (x : HostAddr × U32) (rest : List (HostAddr × U32)) :
    segmentBytes s (x :: rest) = s.peekList .host x.1.toNat x.2.toNat ++ segmentBytes s rest := List.flatMap_cons

theorem segmentsTotal_eq_sum (segs : List (HostAddr × U32)) : segmentsTotal segs = (segs.map fun x => x.2.toNat).sum := by
  induction segs with
  | nil => rfl
  | cons x rest ih => simp [segmentsTotal, ih]

/-- Copying readable segments into LOGBUF is one store of their bytes. -/
theorem copySegments_eq {segs : List (HostAddr × U32)} {p : Nat} {s : State} (hread : ∀ x ∈ segs, hostReadable s x.1 x.2.toNat = true)
    (hspace : p + segmentsTotal segs ≤ spaceSize s.cfg .logbuf) :
    copySegments p segs s = .ok (s.poke .logbuf p (segmentBytes s segs)) := by
  induction segs generalizing p s with
  | nil => rw [segmentBytes, List.flatMap_nil, State.poke_nil, copySegments]
  | cons x rest ih =>
    obtain ⟨a, n⟩ := x
    have hhead : hostReadable s a n.toNat = true := hread (a, n) List.mem_cons_self
    simp only [segmentsTotal] at hspace
    have hbytes : (s.peekList .host a.toNat n.toNat).length = n.toNat := State.length_peekList _ _ _ _
    have hin : inSpace s.cfg .logbuf p (s.peekList .host a.toNat n.toNat).length = true := by
      rw [hbytes]
      simp only [inSpace, Bool.or_eq_true, decide_eq_true_eq]
      exact .inr (by omega)
    have hrest := ih (p := p + n.toNat) (s := s.poke .logbuf p (s.peekList .host a.toNat n.toNat))
      (fun x hx => hread x (List.mem_cons_of_mem _ hx)) (by simpa [Nat.add_assoc] using hspace)
    have hsame : segmentBytes (s.poke .logbuf p (s.peekList .host a.toNat n.toNat)) rest = segmentBytes s rest := by
      simp only [segmentBytes, State.peekList_poke_other s (show Space.host ≠ .logbuf by decide)]
    rw [hsame] at hrest
    unfold hostReadable at hhead
    unfold copySegments readBytes writeBytes
    rw [if_pos hhead]
    simp only [bind, Except.bind]
    rw [if_pos hin]
    simp only [hrest]
    rw [segmentBytes_cons, ← State.poke_poke, hbytes]

/-! ### A grant lies within one buffer (R433) -/

theorem logBufCap_of_wf {p : Params} (h : p.wf = true) : 512 ≤ p.logBufCap ∧ p.logBufCap ≤ 2 ^ 24 - 512 := by
  simp only [Params.wf, Bool.and_eq_true, decide_eq_true_eq] at h
  omega

theorem handleOf_toNat {cap i off : Nat} (hcap : cap < 2 ^ 24) (hi : i < 2) (hoff : off ≤ cap) : (handleOf cap i off).toNat = i * cap + off := by
  have : i * cap ≤ 1 * cap := Nat.mul_le_mul_right _ (by omega)
  rw [handleOf, BitVec.toNat_ofNat, Nat.mod_eq_of_lt (by omega)]

/-- Whatever arrives, the bytes a run is granted lie in one buffer. -/
theorem granted_within {pre : Hook} (hpre : HookRuns pre) {len : Nat} {old : U32} {s t : State} {h : U32} {g : Grant}
    (hrun : CheckoutRuns pre len old s g t) (hg : g = .handle h) (hwf : s.cfg.wf = true) :
    ∃ i off, i < 2 ∧ h.toNat = i * s.cfg.logBufCap + off ∧ off + len ≤ s.cfg.logBufCap := by
  induction hrun with
  | @granted old s s1 s2 s3 hform hroom hstep2 hstep3 hsame hstep4 =>
    simp only [hasRoom, Bool.and_eq_true, decide_eq_true_eq] at hroom
    have hcfg : s3.cfg = s.cfg := by rw [(hpre hstep4).cfg, storeIp_cfg, (hpre hstep3).cfg, addCheckout_cfg, (hpre hstep2).cfg]
    have hcap := logBufCap_of_wf hwf
    cases hg
    rw [hcfg]
    exact ⟨_, _, ipIdx_lt hform, handleOf_toNat (by omega) (ipIdx_lt hform) (by omega), hroom.2⟩
  | @lost old s s1 s2 s3 t g hform hroom hstep2 hstep3 hother hstep5 rest ih =>
    have hcfg : s3.cfg = s.cfg := by rw [(hpre hstep5).cfg, (hpre hstep3).cfg, addCheckout_cfg, (hpre hstep2).cfg]
    rw [subCheckout_cfg, hcfg] at ih
    exact ih hg hwf
  | full => cases hg
  | @switched old s s1 s2 s3 t g j hform hroom hstep6 hstep8 hsame hstep9 rest ih =>
    have hcfg : s3.cfg = s.cfg := by
      rw [(resRun_vacate hpre hstep9).cfg, storeIp_cfg, (hpre hstep8).cfg, (resRun_firstEmpty hpre hstep6).cfg]
    rw [hcfg] at ih
    exact ih hg hwf
  | @raced old s s1 s2 t g j hform hroom hstep6 hstep8 hother rest ih =>
    have hcfg : s2.cfg = s.cfg := by rw [(hpre hstep8).cfg, (resRun_firstEmpty hpre hstep6).cfg]
    rw [hcfg] at ih
    exact ih hg hwf

/-- A handle `checkout` returns names bytes within one buffer, and its length was admitted. -/
theorem checkoutWith_within {pre : Hook} (hpre : HookRuns pre) {len : Nat} {s t : State} {h : U32}
    (hc : checkoutWith pre len s = .ok (.handle h, t)) (hwf : s.cfg.wf = true) :
    len ≠ 0 ∧ ∃ i off, i < 2 ∧ h.toNat = i * s.cfg.logBufCap + off ∧ off + len ≤ s.cfg.logBufCap := by
  rcases checkoutWith_cases hc with ⟨_, hg, _⟩ | ⟨hlen, _, s1, hs1, hrun⟩
  · cases hg
  · have hcfg := (hpre hs1).cfg
    obtain ⟨i, off, hi, hh, hoff⟩ := granted_within hpre hrun rfl (hcfg ▸ hwf)
    rw [hcfg] at hh hoff
    exact ⟨hlen, i, off, hi, hh, hoff⟩

/-- Such a handle is in its buffer, and so are its bytes. -/
theorem handle_bounds {cap i off len h : Nat} (hi : i < 2) (hh : h = i * cap + off) (hoff : off + len ≤ cap) (hlen : len ≠ 0) :
    h < 2 * cap ∧ h + len ≤ 2 * cap ∧ h / cap = i := by
  have hmul : i * cap ≤ 1 * cap := Nat.mul_le_mul_right _ (by omega)
  refine ⟨by omega, by omega, ?_⟩
  rw [hh, Nat.mul_comm, Nat.mul_add_div (by omega), Nat.div_eq_of_lt (by omega), Nat.add_zero]

/-! ### A record appended -/

/-- The state after a record was copied to a granted handle and checked in (R436). -/
def appendedAt (h : Nat) (bytes : List Byte) (s : State) : State := subCheckout (h / s.cfg.logBufCap) (s.poke .logbuf h bytes)

/-- Where nothing arrives a granted record is copied and checked in. -/
theorem appendRecord_granted {pre : Hook} {total : Nat} {segs : List (HostAddr × U32)} {s u : State} {h : U32}
    (hgrant : checkoutWith pre total s = .ok (.handle h, u)) (hread : ∀ x ∈ segs, hostReadable u x.1 x.2.toNat = true)
    (hhandle : h.toNat < 2 * u.cfg.logBufCap) (hspace : h.toNat + segmentsTotal segs ≤ 2 * u.cfg.logBufCap)
    (hstill : pre (u.poke .logbuf h.toNat (segmentBytes u segs)) = .ok (u.poke .logbuf h.toNat (segmentBytes u segs)))
    (hout : (u.sh.buf (h.toNat / u.cfg.logBufCap)).checkouts ≠ 0) :
    appendRecord pre total segs s = .ok (.ok, appendedAt h.toNat (segmentBytes u segs) u) := by
  have hcheckin : checkinWith pre h.toNat (u.poke .logbuf h.toNat (segmentBytes u segs)) =
      .ok (.ok, appendedAt h.toNat (segmentBytes u segs) u) := by
    unfold checkinWith
    rw [State.poke_cfg, if_neg (show ¬Config.nBuf * u.cfg.logBufCap ≤ h.toNat from Nat.not_le.mpr hhandle)]
    simp only [bind, Except.bind, hstill]
    exact if_neg hout
  unfold appendRecord
  rw [hgrant]
  simp only [bind, Except.bind, copySegments_eq hread hspace, hcheckin]

/-- A record is refused as its checkout is. -/
theorem appendRecord_refused {pre : Hook} {total : Nat} {segs : List (HostAddr × U32)} {s u : State} {e : Err}
    (h : checkoutWith pre total s = .ok (.refused e, u)) : appendRecord pre total segs s = .ok (e, u) := by
  unfold appendRecord
  rw [h]
  rfl

/-- A grant taken back but for its bytes: the count and the offset stay moved (R436). -/
theorem appendedAt_granted {len : U32} {s : State} {h : Nat} {bytes : List Byte}
    (hh : h = ipIdx s.sh.ip * s.cfg.logBufCap + ipOff s.sh.ip ∧ h / s.cfg.logBufCap = ipIdx s.sh.ip) :
    appendedAt h bytes (grantedAt len.toNat s) = State.poke
      { s with sh := { s.sh.setBuf (ipIdx s.sh.ip) (fun b => { b with count := b.count + len }) with
          ip := mkIp true (ipIdx s.sh.ip) (ipOff s.sh.ip + len.toNat) } }
      .logbuf (ipIdx s.sh.ip * s.cfg.logBufCap + ipOff s.sh.ip) bytes := by
  have hback : ∀ b : Buf, b.checkouts + 1 - 1 = b.checkouts := fun b => BitVec.add_sub_cancel _ _
  rw [grantedAt_eq, appendedAt, hh.2, hh.1, BitVec.ofNat_toNat, BitVec.setWidth_eq]
  unfold subCheckout State.poke State.onSh State.onMem Shared.setBuf
  dsimp only
  split <;> simp only [hback]

/-- With room at the insertion point and nothing arriving: the record's bytes at the grant, the offset and the count past them, the
checkouts as before (R436). -/
theorem appendRecord_room {total : U32} {segs : List (HostAddr × U32)} {s : State} (hp : s.cfg.wf = true) (htotal : total ≠ 0)
    (hsum : segmentsTotal segs = total.toNat) (hquiet : quiet s = true) (hwf : ipWellFormed s.sh.ip = true)
    (hvalid : ipValid s.sh.ip = true) (hroom : ipOff s.sh.ip + total.toNat ≤ s.cfg.logBufCap)
    (hread : ∀ x ∈ segs, hostReadable s x.1 x.2.toNat = true) (hout : (s.sh.buf (ipIdx s.sh.ip)).checkouts ≠ 0xFFFFFFFF) :
    appendRecord preemptPoint total.toNat segs s = .ok (.ok, State.poke
      { s with sh := { s.sh.setBuf (ipIdx s.sh.ip) (fun b => { b with count := b.count + total }) with
          ip := mkIp true (ipIdx s.sh.ip) (ipOff s.sh.ip + total.toNat) } }
      .logbuf (ipIdx s.sh.ip * s.cfg.logBufCap + ipOff s.sh.ip) (segmentBytes s segs)) := by
  have hi := ipIdx_lt hwf
  have hcap := logBufCap_of_wf hp
  have hlen : total.toNat ≠ 0 := fun h => htotal (BitVec.eq_of_toNat_eq h)
  have hhas : hasRoom s.cfg total.toNat s.sh.ip = true := by simp [hasRoom, hvalid, hroom]
  have hgrant := checkoutWith_still (still_of_quiet hquiet) hlen (by omega) hwf
  rw [hhas, if_pos rfl] at hgrant
  have hhandle : (handleOf s.cfg.logBufCap (ipIdx s.sh.ip) (ipOff s.sh.ip)).toNat = ipIdx s.sh.ip * s.cfg.logBufCap + ipOff s.sh.ip :=
    handleOf_toNat (by omega) hi (by omega)
  obtain ⟨hlt, hend, hdiv⟩ := handle_bounds hi hhandle hroom hlen
  have hcheckouts : ((grantedAt total.toNat s).sh.buf (ipIdx s.sh.ip)).checkouts ≠ 0 := by
    rw [grantedAt_eq]
    show ((s.sh.setBuf (ipIdx s.sh.ip) _).buf (ipIdx s.sh.ip)).checkouts ≠ 0
    rw [Shared.buf_setBuf]
    bv_omega
  have happend := appendRecord_granted (segs := segs) hgrant (u := grantedAt total.toNat s) (by rw [grantedAt_eq]; exact hread)
    (by rw [grantedAt_eq]; exact hlt) (by rw [grantedAt_eq, hsum]; exact hend)
    (preemptPoint_quiet (by rw [grantedAt_eq]; exact hquiet)) (by rw [grantedAt_eq] at hcheckouts ⊢; rw [hdiv]; exact hcheckouts)
  have hbytes : segmentBytes (grantedAt total.toNat s) segs = segmentBytes s segs := by rw [grantedAt_eq]; rfl
  rw [happend, hbytes, appendedAt_granted ⟨hhandle, hdiv⟩]

/-! ### The obligations -/

theorem exec_log (data : HostAddr) (len : U32) (s : State) : exec (.log data len) s = toOutcome (doLog preemptPoint data len s) := rfl

theorem exec_logGather (segments : HostAddr) (count : U32) (s : State) :
    exec (.logGather segments count) s = toOutcome (doLogGather preemptPoint segments count s) := rfl

theorem doLog_of {data : HostAddr} {len : U32} {s t : State} {e : Err}
    (h : appendRecord preemptPoint len.toNat [(data, len)] s = .ok (e, t)) : doLog preemptPoint data len s = .ok (putCode e t) := by
  unfold doLog logWith
  rw [h]
  rfl

/-- What an answered `checkout` call was. -/
theorem exec_checkout_cases {len : U32} {s t : State} (h : exec (.checkout len) s = .next t) :
    ∃ g u, checkoutWith preemptPoint len.toNat s = .ok (g, u) ∧ t = putRet g.ret u := by
  obtain ⟨⟨g, u⟩, hu, hok⟩ := bind_eq_ok (toOutcome_eq_next.mp h)
  cases hok
  exact ⟨g, u, hu, rfl⟩

/-- Main's returned value. -/
theorem putRet_main {s : State} (h : s.env.ctx = .main) (r : Ret) : putRet r s = { s with env := { s.env with ret := r } } := by
  unfold putRet State.onEnv
  simp only [h]

theorem resRun_ctx {s t : State} (h : ResRun s t) : t.env.ctx = s.env.ctx := by rw [h.env]

/-- A refused checkout of main, from the code it returns. -/
theorem checkout_refused {len : U32} {s t : State} {e : Err} (hctx : s.env.ctx = .main) (h : exec (.checkout len) s = .next t)
    (hret : t.env.ret = .code e) :
    ∃ u, checkoutWith preemptPoint len.toNat s = .ok (.refused e, u) ∧ t = putCode e u := by
  obtain ⟨g, u, hu, rfl⟩ := exec_checkout_cases h
  have hmain : u.env.ctx = .main := (resRun_ctx (resRun_checkoutWith hookRuns_preemptPoint hu)).trans hctx
  rw [putRet_main hmain] at hret
  cases g with
  | handle w => cases hret
  | refused e' => cases hret; exact ⟨u, hu, rfl⟩

/-- A granted checkout of main, from the handle it returns. -/
theorem checkout_granted {len : U32} {s t : State} {h : U32} (hctx : s.env.ctx = .main) (hc : exec (.checkout len) s = .next t)
    (hret : t.env.ret = .word h) :
    ∃ u, checkoutWith preemptPoint len.toNat s = .ok (.handle h, u) ∧ t = putRet (.word h) u ∧ u.env.ctx = .main := by
  obtain ⟨g, u, hu, rfl⟩ := exec_checkout_cases hc
  have hmain : u.env.ctx = .main := (resRun_ctx (resRun_checkoutWith hookRuns_preemptPoint hu)).trans hctx
  rw [putRet_main hmain] at hret
  cases g with
  | handle w => cases hret; exact ⟨u, hu, rfl, hmain⟩
  | refused e' => cases hret

/-- A checkout where nothing arrives changes the shared fields only. -/
theorem checkoutWith_frame {pre : Hook} {len : Nat} {s t : State} {g : Grant} (hstill : Still pre s)
    (h : checkoutWith pre len s = .ok (g, t)) : t = { s with sh := t.sh } := by
  rcases checkoutWith_cases h with ⟨_, _, rfl⟩ | ⟨hlen, hcap, s1, hs1, hrun⟩
  · rfl
  · cases hstill.here.symm.trans hs1
    have hwf : ipWellFormed s.sh.ip = true := by cases hrun <;> assumption
    rw [checkoutWith_still hstill hlen hcap hwf] at h
    split at h
    · cases h; rw [grantedAt_eq]
    · split at h
      · cases h; rfl
      · cases h; rw [grantedAt_eq, switchedTo_onSh]; rfl

/-- From the first state of a quiet call: the record appended to a granted handle. -/
theorem appendRecord_of_checkout {total : U32} {segs : List (HostAddr × U32)} {s t : State} {h : U32} (hp : s.cfg.wf = true)
    (hctx : s.env.ctx = .main) (hquiet : quiet s = true) (hread : ∀ x ∈ segs, hostReadable s x.1 x.2.toNat = true)
    (hsum : segmentsTotal segs = total.toNat) (hc : exec (.checkout total) s = .next t) (hret : t.env.ret = .word h)
    (hout : (t.sh.buf (h.toNat / s.cfg.logBufCap)).checkouts ≠ 0) :
    ∃ u, appendRecord preemptPoint total.toNat segs s = .ok (.ok, u) ∧
      putCode .ok u = putRet (.code .ok) (State.poke
        { t with sh := t.sh.setBuf (h.toNat / s.cfg.logBufCap) fun b => { b with checkouts := b.checkouts - 1 } }
        .logbuf h.toNat (segmentBytes s segs)) := by
  obtain ⟨u, hu, rfl, hmain⟩ := checkout_granted hctx hc hret
  have hframe := checkoutWith_frame (still_of_quiet hquiet) hu
  have hcfg : u.cfg = s.cfg := by rw [hframe]
  have hbytes : segmentBytes u segs = segmentBytes s segs := by rw [hframe]; rfl
  obtain ⟨hlen, i, off, hi, hh, hoff⟩ := checkoutWith_within hookRuns_preemptPoint hu hp
  obtain ⟨hlt, hend, _⟩ := handle_bounds hi hh hoff hlen
  have happend := appendRecord_granted hu (by rw [hframe]; exact hread) (by rw [hcfg]; exact hlt) (by rw [hcfg, hsum]; exact hend)
    (preemptPoint_quiet (by rw [hframe]; exact hquiet)) (by rw [hcfg]; exact hout)
  refine ⟨_, happend, ?_⟩
  rw [appendedAt, hcfg, hbytes, putCode, putRet_main (s := u) hmain, putRet_main (by exact hmain), putRet_main (by exact hmain)]
  rfl

/-- Settles O21: a record of one segment. -/
theorem logAppends : Obligations.LogAppends := by
  unfold Obligations.LogAppends
  intro s data len
  have hone : segmentsTotal [(data, len)] = len.toNat := Nat.add_zero _
  have hbytes : segmentBytes s [(data, len)] = s.peekList .host data.toNat len.toNat := by simp [segmentBytes]
  refine ⟨fun hlen => ?_, fun hp hlen hquiet hwf hvalid hroom hread hout => ?_, fun s1 e hctx hc hret => ?_,
    fun s1 h hp hctx hquiet hread hc hret hout => ?_⟩
  · have hlen : len.toNat = 0 ∨ s.cfg.logBufCap < len.toNat := hlen.imp_left fun h => by rw [h]; rfl
    rw [exec_log, doLog_of (appendRecord_refused (checkoutWith_rejected hlen))]
    rfl
  · have happend := appendRecord_room hp hlen hone hquiet hwf hvalid hroom (by simpa using hread) hout
    rw [exec_log, doLog_of happend, hbytes]
    rfl
  · obtain ⟨u, hu, rfl⟩ := checkout_refused hctx hc hret
    rw [exec_log, doLog_of (appendRecord_refused hu)]
    rfl
  · have hcfg : s1.cfg = s.cfg := by
      obtain ⟨u, hu, rfl, _⟩ := checkout_granted hctx hc hret
      exact (resRun_checkoutWith hookRuns_preemptPoint hu).cfg
    obtain ⟨u, happend, hu⟩ := appendRecord_of_checkout (segs := [(data, len)]) hp hctx hquiet (by simpa using hread) hone hc hret hout
    rw [exec_log, doLog_of happend, hu, hbytes]
    rfl

/-- Segment `k` of an array at a HOST address (log 15). -/
def segmentAt (s : State) (a k : Nat) : HostAddr × U32 :=
  (field32 s .host (a + 12 * k + 4) ++ field32 s .host (a + 12 * k), field32 s .host (a + 12 * k + 8))

/-- The array read is its segments in order. -/
theorem segmentsOf_peekList (s : State) (a n : Nat) : segmentsOf (s.peekList .host a (12 * n)) = (List.range n).map (segmentAt s a) := by
  induction n generalizing a with
  | zero => rfl
  | succ n ih =>
    have hrest : (List.range n).map (segmentAt s (a + 12)) = ((List.range n).map Nat.succ).map (segmentAt s a) := by
      rw [List.map_map]
      refine List.map_congr_left fun k _ => ?_
      simp only [segmentAt, Function.comp, Nat.succ_eq_add_one, show a + 12 + 12 * k = a + 12 * (k + 1) by omega]
    rw [List.range_succ_eq_map, List.map_cons, ← hrest, ← ih, Nat.mul_succ]
    rfl

theorem segmentsOf_eq {s : State} {a : Nat} {segs : List (HostAddr × U32)} {n : Nat} (hlen : segs.length = n)
    (hsegs : ∀ k, k < n → segs[k]? = some (segmentAt s a k)) : segmentsOf (s.peekList .host a (12 * n)) = segs := by
  rw [segmentsOf_peekList]
  refine List.ext_getElem? fun k => ?_
  by_cases hk : k < n
  · rw [hsegs k hk, List.getElem?_map, List.getElem?_range hk]
    rfl
  · rw [List.getElem?_eq_none (by simpa using hk), List.getElem?_eq_none (by omega)]

/-- A gather of a readable array: refused for its total, or the record of its segments. -/
theorem logGatherWith_eq {pre : Hook} {segments : HostAddr} {count : U32} {s : State} {segs : List (HostAddr × U32)} (hcount : count ≠ 0)
    (hread : hostReadable s segments (12 * count.toNat) = true)
    (hsegs : segmentsOf (s.peekList .host segments.toNat (12 * count.toNat)) = segs) :
    logGatherWith pre segments count s =
      if segmentsTotal segs = 0 ∨ s.cfg.logBufCap < segmentsTotal segs then .ok (.rejected, s)
      else appendRecord pre (segmentsTotal segs) segs s := by
  unfold hostReadable at hread
  unfold logGatherWith readBytes
  rw [if_neg hcount, if_pos hread]
  simp only [bind, Except.bind, hsegs]

theorem doLogGather_of {segments : HostAddr} {count : U32} {s t : State} {e : Err}
    (h : logGatherWith preemptPoint segments count s = .ok (e, t)) :
    doLogGather preemptPoint segments count s = .ok (putCode e t) := by
  unfold doLogGather
  rw [h]
  rfl

/-- Settles O22: the array is its segments, and their record is appended as one. -/
theorem logGatherAppends : Obligations.LogGatherAppends := by
  unfold Obligations.LogGatherAppends
  intro s segments count total segs
  refine ⟨rfl, fun hcount hread hlen hsegs => ?_⟩
  have hgather (pre : Hook) := logGatherWith_eq (pre := pre) hcount hread (segmentsOf_eq hlen hsegs)
  rw [← segmentsTotal_eq_sum]
  have hadmitted (hle : total.toNat ≠ 0 ∧ total.toNat ≤ s.cfg.logBufCap) (hsum : segmentsTotal segs = total.toNat) :
      logGatherWith preemptPoint segments count s = appendRecord preemptPoint total.toNat segs s := by
    rw [hgather, if_neg (by omega), hsum]
  refine ⟨fun hrefused => ?_, fun hsum htotal hreads hp hquiet hwf hvalid hroom hout => ?_, fun s1 e hsum hctx hc hret => ?_,
    fun s1 h hsum hreads hp hctx hquiet hc hret hout => ?_⟩
  · rw [exec_logGather, doLogGather_of ((hgather _).trans (if_pos hrefused))]
    rfl
  · have hne : total.toNat ≠ 0 := fun h => htotal (BitVec.eq_of_toNat_eq h)
    have happend := appendRecord_room hp htotal hsum hquiet hwf hvalid hroom hreads hout
    rw [exec_logGather, doLogGather_of ((hadmitted ⟨hne, by omega⟩ hsum).trans happend)]
    rfl
  · obtain ⟨u, hu, rfl⟩ := checkout_refused hctx hc hret
    by_cases hle : total.toNat ≠ 0 ∧ total.toNat ≤ s.cfg.logBufCap
    · rw [exec_logGather, doLogGather_of ((hadmitted hle hsum).trans (appendRecord_refused hu))]
      rfl
    · have hrefused : total.toNat = 0 ∨ s.cfg.logBufCap < total.toNat := by omega
      rw [checkoutWith_rejected hrefused] at hu
      cases hu
      rw [exec_logGather, doLogGather_of ((hgather _).trans (if_pos (hsum ▸ hrefused)))]
      rfl
  · obtain ⟨u', hu', _, _⟩ := checkout_granted hctx hc hret
    have hle : total.toNat ≠ 0 ∧ total.toNat ≤ s.cfg.logBufCap := by
      rcases checkoutWith_cases hu' with ⟨_, hg, _⟩ | ⟨hne, hle, _⟩
      · cases hg
      · exact ⟨hne, hle⟩
    have hcfg : s1.cfg = s.cfg := by
      obtain ⟨u, hu, rfl, _⟩ := checkout_granted hctx hc hret
      exact (resRun_checkoutWith hookRuns_preemptPoint hu).cfg
    obtain ⟨u, happend, hu⟩ := appendRecord_of_checkout hp hctx hquiet hreads hsum hc hret hout
    rw [exec_logGather, doLogGather_of ((hadmitted hle hsum).trans happend), hu]
    rfl

end Sys2Proof.Machine
end

section
/-! The grants of irq calls (45_reservation.md R431, R433, R442): what one call does to the insertion point and the counts, and what a batch of
them keeps. -/

namespace Sys2Proof.Machine

/-! ### What a call grants -/

/-- The bytes counted in a buffer. -/
def counted (s : State) (k : Nat) : Nat := (s.sh.buf k).count.toNat

/-- The insertion point is in buffer `i` (R155). -/
def pointsIn (s : State) (i : Nat) : Prop := ipValid s.sh.ip = true ∧ ipIdx s.sh.ip = i

/-- Nothing is granted: the insertion point and the counts stay. -/
structure NoGrant (s t : State) : Prop where
  cfg : t.cfg = s.cfg
  ip : t.sh.ip = s.sh.ip
  count : ∀ k, (t.sh.buf k).count = (s.sh.buf k).count

/-- `len` bytes are granted from offset `off` of buffer `i`: at the insertion point, or at the start of an empty buffer the insertion
point goes to, leaving its own only where the bytes do not fit. -/
structure GrantAt (i off len : Nat) (s t : State) : Prop where
  cfg : t.cfg = s.cfg
  idx : i < 2
  len_ne : len ≠ 0
  room : off + len ≤ s.cfg.logBufCap
  place : (pointsIn s i ∧ off = ipOff s.sh.ip) ∨
    (¬pointsIn s i ∧ off = 0 ∧ (s.sh.buf i).count = 0 ∧ (ipValid s.sh.ip = true → s.cfg.logBufCap < ipOff s.sh.ip + len))
  ip : t.sh.ip = mkIp true i (off + len)
  count : (t.sh.buf i).count = (s.sh.buf i).count + BitVec.ofNat 32 len
  other : ∀ k, (i = 0) ≠ (k = 0) → (t.sh.buf k).count = (s.sh.buf k).count

theorem NoGrant.refl (s : State) : NoGrant s s := ⟨rfl, rfl, fun _ => rfl⟩

theorem NoGrant.trans {s t u : State} (hst : NoGrant s t) (htu : NoGrant t u) : NoGrant s u :=
  ⟨htu.cfg.trans hst.cfg, htu.ip.trans hst.ip, fun k => (htu.count k).trans (hst.count k)⟩

/-- An update of a buffer that keeps its count. -/
theorem NoGrant.setBuf (s : State) (i : Nat) (f : Buf → Buf) (h : ∀ b, (f b).count = b.count) :
    NoGrant s (s.onSh fun x => x.setBuf i f) where
  cfg := rfl
  ip := Shared.setBuf_ip _ _ _
  count := by
    intro k
    rw [State.onSh_sh]
    by_cases hk : (i = 0) = (k = 0)
    · have hbuf : ∀ x : Shared, x.buf k = x.buf i := fun x => by simp only [Shared.buf, hk]
      rw [hbuf, hbuf, Shared.buf_setBuf, h]
    · rw [Shared.buf_setBuf_other _ _ _ _ hk]

theorem noGrant_addCheckout (i : Nat) (s : State) : NoGrant s (addCheckout i s) := .setBuf s i _ fun _ => rfl
theorem noGrant_subCheckout (i : Nat) (s : State) : NoGrant s (subCheckout i s) := .setBuf s i _ fun _ => rfl
theorem noGrant_storePending (i : Nat) (v : Bool) (s : State) : NoGrant s (storePending i v s) := .setBuf s i _ fun _ => rfl
theorem noGrant_addMissed (s : State) : NoGrant s (addMissed s) := ⟨rfl, rfl, fun _ => rfl⟩
theorem noGrant_poke (s : State) (sp : Space) (a : Nat) (bs : List Byte) : NoGrant s (s.poke sp a bs) := ⟨rfl, rfl, fun _ => rfl⟩
theorem noGrant_putRet (r : Ret) (s : State) : NoGrant s (putRet r s) := ⟨rfl, rfl, fun _ => rfl⟩

/-- What follows a grant and grants nothing. -/
theorem GrantAt.after {i off len : Nat} {s t u : State} (h : GrantAt i off len s t) (hu : NoGrant t u) : GrantAt i off len s u where
  cfg := hu.cfg.trans h.cfg
  idx := h.idx
  len_ne := h.len_ne
  room := h.room
  place := h.place
  ip := hu.ip.trans h.ip
  count := (hu.count i).trans h.count
  other := fun k hk => (hu.count k).trans (h.other k hk)

/-- What comes before a grant and grants nothing. -/
theorem GrantAt.before {i off len : Nat} {s t u : State} (h : GrantAt i off len t u) (hs : NoGrant s t) : GrantAt i off len s u where
  cfg := h.cfg.trans hs.cfg
  idx := h.idx
  len_ne := h.len_ne
  room := hs.cfg ▸ h.room
  place := by
    have hplace := h.place
    unfold pointsIn at hplace ⊢
    rw [hs.ip, hs.count, hs.cfg] at hplace
    exact hplace
  ip := h.ip
  count := by rw [h.count, hs.count]
  other := fun k hk => (h.other k hk).trans (hs.count k)

/-- The counts after a grant at the insertion point. -/
theorem grantedAt_counts (len : Nat) (s : State) :
    ((grantedAt len s).sh.buf (ipIdx s.sh.ip)).count = (s.sh.buf (ipIdx s.sh.ip)).count + BitVec.ofNat 32 len ∧
      ∀ k, (ipIdx s.sh.ip = 0) ≠ (k = 0) → ((grantedAt len s).sh.buf k).count = (s.sh.buf k).count := by
  rw [grantedAt_eq]
  refine ⟨?_, fun k hk => ?_⟩
  · show ((s.sh.setBuf (ipIdx s.sh.ip) _).buf (ipIdx s.sh.ip)).count = _
    rw [Shared.buf_setBuf]
  · show ((s.sh.setBuf (ipIdx s.sh.ip) _).buf k).count = _
    rw [Shared.buf_setBuf_other _ _ _ _ hk]

theorem noGrant_switchedTo_counts (j : Nat) (s : State) (k : Nat) : ((switchedTo j s).sh.buf k).count = (s.sh.buf k).count := by
  unfold switchedTo
  split
  · exact (noGrant_storePending _ _ (storeIp (mkIp true j 0) s)).count k
  · rfl

/-- An empty candidate is a buffer the insertion point is not in. -/
theorem emptyCandidate_elsewhere {s : State} {j : Nat} (hwf : ipWellFormed s.sh.ip = true) (h : emptyCandidate s = some j) :
    ¬pointsIn s j := by
  rintro ⟨hvalid, hidx⟩
  have hmem := (emptyCandidate_mem h).1
  have hi := ipIdx_lt hwf
  rw [hvalid, candidates, if_pos rfl, List.mem_singleton, other_eq hi] at hmem
  omega

/-- A checkout where nothing arrives: refused with nothing granted, or one grant with its handle. -/
theorem checkoutWith_still_cases {pre : Hook} {len : Nat} {s t : State} {g : Grant} (hstill : Still pre s)
    (h : checkoutWith pre len s = .ok (g, t)) :
    (∃ e, g = .refused e ∧ NoGrant s t) ∨
      ∃ i off, g = .handle (handleOf s.cfg.logBufCap i off) ∧ GrantAt i off len s t := by
  rcases checkoutWith_cases h with ⟨_, rfl, rfl⟩ | ⟨hlen, hcap, s1, hs1, hrun⟩
  · exact .inl ⟨_, rfl, .refl _⟩
  cases hstill.here.symm.trans hs1
  have hwf : ipWellFormed s.sh.ip = true := by cases hrun <;> assumption
  have hi := ipIdx_lt hwf
  rw [checkoutWith_still hstill hlen hcap hwf] at h
  split at h
  next hroom =>
    cases h
    simp only [hasRoom, Bool.and_eq_true, decide_eq_true_eq] at hroom
    obtain ⟨hcount, hother⟩ := grantedAt_counts len s
    refine .inr ⟨_, _, rfl, by rw [grantedAt_eq], hi, hlen, hroom.2, .inl ⟨⟨hroom.1, rfl⟩, rfl⟩, by rw [grantedAt_eq], hcount, hother⟩
  next hroom =>
    split at h
    · cases h; exact .inl ⟨_, rfl, noGrant_addMissed s⟩
    next j hj =>
      cases h
      have hj2 : j < 2 := candidates_lt hi (emptyCandidate_mem hj).1
      obtain ⟨_, _, hidx, hoff⟩ := mkIp_fields j 0 hj2 (by decide)
      obtain ⟨hcount, hother⟩ := grantedAt_counts len (switchedTo j s)
      rw [switchedTo_ip, hidx] at hcount hother
      refine .inr ⟨j, 0, rfl, ?_, hj2, hlen, by omega, .inr ⟨emptyCandidate_elsewhere hwf hj, rfl, (emptyCandidate_mem hj).2, ?_⟩, ?_, ?_, ?_⟩
      · rw [grantedAt_eq, switchedTo_onSh]; rfl
      · intro hvalid
        simpa [hasRoom, hvalid] using hroom
      · rw [grantedAt_eq]
        show mkIp true (ipIdx (switchedTo j s).sh.ip) (ipOff (switchedTo j s).sh.ip + len) = _
        rw [switchedTo_ip, hidx, hoff]
      · rw [hcount, noGrant_switchedTo_counts]
      · intro k hk
        rw [hother k hk, noGrant_switchedTo_counts]

theorem noGrant_checkinWith_still {pre : Hook} {h : Nat} {s t : State} {e : Err} (hstill : Still pre s)
    (hc : checkinWith pre h s = .ok (e, t)) : NoGrant s t := by
  rcases checkinWith_cases hc with ⟨_, rfl⟩ | ⟨s1, hs1, hrest⟩
  · exact .refl _
  · cases hstill.here.symm.trans hs1
    rcases hrest with ⟨_, rfl⟩ | ⟨_, rfl⟩
    · exact .refl _
    · exact noGrant_subCheckout _ s

theorem noGrant_copySegments {segs : List (HostAddr × U32)} {p : Nat} {s t : State} (h : copySegments p segs s = .ok t) : NoGrant s t := by
  induction segs generalizing p s with
  | nil => cases h; exact .refl _
  | cons x rest ih =>
    obtain ⟨b, _, h⟩ := bind_eq_ok h
    obtain ⟨u, hu, h⟩ := bind_eq_ok h
    obtain ⟨_, rfl⟩ := writeBytes_ok hu
    exact (noGrant_poke s _ _ _).trans (ih h)

/-- Nothing is granted, or one range is. -/
def AtMostOne (s t : State) : Prop := NoGrant s t ∨ ∃ i off len, GrantAt i off len s t

theorem AtMostOne.after {s t u : State} (h : AtMostOne s t) (hu : NoGrant t u) : AtMostOne s u := by
  rcases h with h | ⟨i, off, len, h⟩
  · exact .inl (h.trans hu)
  · exact .inr ⟨i, off, len, h.after hu⟩

theorem atMostOne_checkout {len : Nat} {s t : State} {g : Grant} (h : checkoutWith noPreempt len s = .ok (g, t)) : AtMostOne s t := by
  rcases checkoutWith_still_cases (still_noPreempt s) h with ⟨_, _, h⟩ | ⟨i, off, _, h⟩
  · exact .inl h
  · exact .inr ⟨i, off, len, h⟩

theorem atMostOne_appendRecord {total : Nat} {segs : List (HostAddr × U32)} {s t : State} {e : Err}
    (h : appendRecord noPreempt total segs s = .ok (e, t)) : AtMostOne s t := by
  rcases appendRecord_cases h with h | ⟨w, s1, s2, e', hg, hcopy, hin, _⟩
  · exact atMostOne_checkout h
  · exact (atMostOne_checkout hg).after ((noGrant_copySegments hcopy).trans (noGrant_checkinWith_still (still_noPreempt s2) hin))

/-- An irq call grants at most one range, and none where it does not reserve. -/
theorem atMostOne_irqCall {i : Instr} {s t : State} (h : irqCall i s = .ok t) :
    AtMostOne s t ∧ (reserves i = false → NoGrant s t) := by
  cases i
  case checkout len =>
    obtain ⟨⟨g, u⟩, hu, h⟩ := bind_eq_ok h
    cases h
    exact ⟨(atMostOne_checkout hu).after (noGrant_putRet _ u), nofun⟩
  case log data len =>
    obtain ⟨⟨g, u⟩, hu, h⟩ := bind_eq_ok h
    cases h
    exact ⟨(atMostOne_appendRecord hu).after (noGrant_putRet _ u), nofun⟩
  case logGather segments count =>
    obtain ⟨⟨g, u⟩, hu, h⟩ := bind_eq_ok h
    cases h
    refine ⟨AtMostOne.after ?_ (noGrant_putRet _ u), nofun⟩
    rcases logGatherWith_cases hu with rfl | ⟨segs, hu⟩
    · exact .inl (.refl _)
    · exact atMostOne_appendRecord hu
  case checkin w =>
    obtain ⟨⟨g, u⟩, hu, h⟩ := bind_eq_ok h
    cases h
    have hnone : NoGrant s (putCode g u) := (noGrant_checkinWith_still (still_noPreempt s) hu).trans (noGrant_putRet _ u)
    exact ⟨.inl hnone, fun _ => hnone⟩
  case flightBlocks => cases h; exact ⟨.inl (noGrant_putRet _ s), fun _ => noGrant_putRet _ s⟩
  case missedCheckouts => cases h; exact ⟨.inl (noGrant_putRet _ s), fun _ => noGrant_putRet _ s⟩
  all_goals cases h

/-! ### The count stays below the insertion point -/

/-- The parameters and the insertion point are in range, and its buffer's count is not past it. -/
structure Pointed (s : State) : Prop where
  params : s.cfg.wf = true
  range : ipInRange s = true
  count : ipValid s.sh.ip = true → counted s (ipIdx s.sh.ip) ≤ ipOff s.sh.ip

/-- The fields of the insertion point in range. -/
theorem ipInRange_fields {s : State} (h : ipInRange s = true) :
    ipWellFormed s.sh.ip = true ∧ (ipValid s.sh.ip = true → ipOff s.sh.ip ≤ s.cfg.logBufCap) := by
  simp only [ipInRange, Bool.and_eq_true, Bool.or_eq_true, Bool.not_eq_true', decide_eq_true_eq] at h
  exact ⟨h.1, fun hvalid => h.2.resolve_left (by simp [hvalid])⟩

theorem ipInRange_mkIp {s : State} {i off : Nat} (hp : s.cfg.wf = true) (hi : i < 2) (hoff : off ≤ s.cfg.logBufCap)
    (hip : s.sh.ip = mkIp true i off) :
    ipInRange s = true ∧ ipValid s.sh.ip = true ∧ ipIdx s.sh.ip = i ∧ ipOff s.sh.ip = off := by
  have hcap := logBufCap_of_wf hp
  obtain ⟨hform, hvalid, hidx, hoff'⟩ := mkIp_fields i off hi (by omega)
  refine ⟨?_, by rw [hip, hvalid], by rw [hip, hidx], by rw [hip, hoff']⟩
  simp only [ipInRange, hip, hform, hvalid, hoff', Bool.not_true, Bool.false_or, Bool.true_and, decide_eq_true hoff]

theorem Pointed.congr {s t : State} (hs : Pointed s) (h : NoGrant s t) : Pointed t where
  params := h.cfg ▸ hs.params
  range := by
    have hrange := hs.range
    unfold ipInRange at hrange ⊢
    rw [h.ip, h.cfg]
    exact hrange
  count := by
    unfold counted
    rw [h.ip, h.count]
    exact hs.count

/-- The numbers of a grant: the buffer's count is not past its start, and grows by its length. -/
structure Granted (i off len : Nat) (s t : State) : Prop where
  start : counted s i ≤ off
  counted : counted t i = counted s i + len
  other : ∀ k, k < 2 → k ≠ i → Machine.counted t k = Machine.counted s k
  valid : ipValid t.sh.ip = true
  idx : ipIdx t.sh.ip = i
  off : ipOff t.sh.ip = off + len
  pointed : Pointed t

theorem GrantAt.granted {i off len : Nat} {s t : State} (h : GrantAt i off len s t) (hs : Pointed s) : Granted i off len s t := by
  have hcap := logBufCap_of_wf hs.params
  have hroom := h.room
  have hp : t.cfg.wf = true := by rw [h.cfg]; exact hs.params
  obtain ⟨hrange, hvalid, hidx, hoff⟩ := ipInRange_mkIp hp h.idx (by rw [h.cfg]; exact h.room) h.ip
  have hstart : counted s i ≤ off := by
    rcases h.place with ⟨⟨hv, rfl⟩, rfl⟩ | ⟨_, rfl, hempty, _⟩
    · exact hs.count hv
    · rw [counted, hempty]; exact Nat.le_refl 0
  have hcounted : counted t i = counted s i + len := by
    unfold counted at hstart ⊢
    rw [h.count, BitVec.toNat_add, BitVec.toNat_ofNat]
    omega
  refine ⟨hstart, hcounted, fun k hk hne => ?_, hvalid, hidx, hoff, hp, hrange, ?_⟩
  · have hi := h.idx
    unfold counted
    rw [h.other k (by simp only [ne_eq, eq_iff_iff]; omega)]
  · intro _
    rw [hidx, hoff, hcounted]
    omega

theorem Pointed.atMostOne {s t : State} (hs : Pointed s) (h : AtMostOne s t) : Pointed t := by
  rcases h with h | ⟨i, off, len, h⟩
  · exact hs.congr h
  · exact (h.granted hs).pointed

theorem pointed_irqCalls {batch : List Instr} {s t : State} (h : irqCalls batch s = .ok t) (hs : Pointed s) : Pointed t := by
  induction batch generalizing s with
  | nil => cases h; exact hs
  | cons i rest ih =>
    obtain ⟨u, hu, h⟩ := irqCalls_cons h
    exact ih h (hs.atMostOne (atMostOne_irqCall hu).1)

/-- A batch that reserves nothing grants nothing; one that reserves once grants at most one range. -/
theorem atMostOne_irqCalls {batch : List Instr} {s t : State} (h : irqCalls batch s = .ok t) :
    ((batch.filter reserves).length = 0 → NoGrant s t) ∧ ((batch.filter reserves).length ≤ 1 → AtMostOne s t) := by
  induction batch generalizing s with
  | nil => cases h; exact ⟨fun _ => .refl _, fun _ => .inl (.refl _)⟩
  | cons i rest ih =>
    obtain ⟨u, hu, h⟩ := irqCalls_cons h
    obtain ⟨hone, hnone⟩ := atMostOne_irqCall hu
    obtain ⟨ihnone, ihone⟩ := ih h
    cases hi : reserves i with
    | false =>
      have hfilter : ((i :: rest).filter reserves) = rest.filter reserves := by simp [hi]
      rw [hfilter]
      refine ⟨fun h0 => (hnone hi).trans (ihnone h0), fun h1 => ?_⟩
      rcases ihone h1 with hrest | ⟨k, off, len, hrest⟩
      · exact .inl ((hnone hi).trans hrest)
      · exact .inr ⟨k, off, len, hrest.before (hnone hi)⟩
    | true =>
      have hfilter : ((i :: rest).filter reserves).length = (rest.filter reserves).length + 1 := by simp [hi]
      rw [hfilter]
      exact ⟨fun h0 => by omega, fun h1 => hone.after (ihnone (by omega))⟩

/-! ### Granted ranges stay granted -/

/-- How far buffer `k` is given out: up to the insertion point in it, all of it once it holds bytes and is left, else nothing. -/
def given (s : State) (k : Nat) : Nat :=
  if ipValid s.sh.ip && ipIdx s.sh.ip == k then ipOff s.sh.ip else if counted s k = 0 then 0 else s.cfg.logBufCap

/-- Ranges of handles that have no byte in common. -/
def Apart (h l h' l' : Nat) : Prop := h + l ≤ h' ∨ h' + l' ≤ h

/-- The `l` bytes at handle `h` lie in the part of a buffer that is given out. -/
def Within (s : State) (h l : Nat) : Prop := ∃ k off, k < 2 ∧ h = k * s.cfg.logBufCap + off ∧ off + l ≤ given s k

/-- They do, in a buffer that holds bytes, so that no insertion point goes back before them. -/
def Held (s : State) (h l : Nat) : Prop :=
  ∃ k off, k < 2 ∧ h = k * s.cfg.logBufCap + off ∧ off + l ≤ given s k ∧ counted s k ≠ 0

theorem Held.within {s : State} {h l : Nat} (hh : Held s h l) : Within s h l := by
  obtain ⟨k, off, hk, e, hoff, _⟩ := hh
  exact ⟨k, off, hk, e, hoff⟩

theorem given_pointsIn {s : State} {k : Nat} (h : pointsIn s k) : given s k = ipOff s.sh.ip := by
  unfold given
  rw [h.1, h.2]
  simp

theorem given_elsewhere {s : State} {k : Nat} (h : ¬pointsIn s k) :
    given s k = if counted s k = 0 then 0 else s.cfg.logBufCap := by
  unfold given
  rw [if_neg]
  simpa [pointsIn] using h

theorem given_le {s : State} (hs : Pointed s) (k : Nat) : given s k ≤ s.cfg.logBufCap := by
  by_cases hk : pointsIn s k
  · rw [given_pointsIn hk]
    exact (ipInRange_fields hs.range).2 hk.1
  · rw [given_elsewhere hk]
    split <;> omega

theorem given_noGrant {s t : State} (h : NoGrant s t) (k : Nat) : given t k = given s k := by
  unfold given counted
  rw [h.ip, h.count, h.cfg]

theorem counted_noGrant {s t : State} (h : NoGrant s t) (k : Nat) : counted t k = counted s k := by
  unfold counted
  rw [h.count]

theorem Held.noGrant {s t : State} {h l : Nat} (hh : Held s h l) (hst : NoGrant s t) : Held t h l := by
  obtain ⟨k, off, hk, e, hoff, hne⟩ := hh
  exact ⟨k, off, hk, hst.cfg ▸ e, by rw [given_noGrant hst]; exact hoff, by rw [counted_noGrant hst]; exact hne⟩

/-- A grant starts where its buffer is given out to. -/
theorem GrantAt.given_eq {i off len : Nat} {s t : State} (h : GrantAt i off len s t) : given s i = off := by
  rcases h.place with ⟨hpoints, rfl⟩ | ⟨helse, rfl, hempty, _⟩
  · exact given_pointsIn hpoints
  · rw [given_elsewhere helse, counted, hempty]
    rfl

/-- After it the buffer is given out to its end. -/
theorem Granted.given_eq {i off len : Nat} {s t : State} (h : Granted i off len s t) : given t i = off + len := by
  rw [given_pointsIn ⟨h.valid, h.idx⟩, h.off]

theorem Held.granted {i off len : Nat} {s t : State} {h l : Nat} (hh : Held s h l) (hg : GrantAt i off len s t) (hs : Pointed s) :
    Held t h l := by
  obtain ⟨k, o, hk, e, ho, hne⟩ := hh
  have hgrant := hg.granted hs
  refine ⟨k, o, hk, hg.cfg ▸ e, ?_, ?_⟩
  · by_cases hki : k = i
    · subst hki
      rw [hgrant.given_eq]
      rw [hg.given_eq] at ho
      omega
    · have helse : ¬pointsIn t k := fun hp => hki (hp.2.symm.trans hgrant.idx)
      rw [given_elsewhere helse, if_neg (by rw [hgrant.other k hk hki]; exact hne), hg.cfg]
      exact ho.trans (given_le hs k)
  · by_cases hki : k = i
    · subst hki
      have := hg.len_ne
      rw [hgrant.counted]
      omega
    · rw [hgrant.other k hk hki]
      exact hne

/-- The range granted is held after its grant. -/
theorem held_of_grantAt {i off len : Nat} {s t : State} (hg : GrantAt i off len s t) (hs : Pointed s) :
    Held t (handleOf s.cfg.logBufCap i off).toNat len := by
  have hgrant := hg.granted hs
  have hcap := logBufCap_of_wf hs.params
  have hroom := hg.room
  have hlen := hg.len_ne
  refine ⟨i, off, hg.idx, ?_, ?_, ?_⟩
  · rw [hg.cfg]
    exact handleOf_toNat (by omega) hg.idx (by omega)
  · rw [hgrant.given_eq]
  · rw [hgrant.counted]
    omega

/-- Ranges of different buffers are apart. -/
theorem apart_of_buffers {cap k k' o o' l l' : Nat} (hk : k < 2) (hk' : k' < 2) (hne : k ≠ k') (ho : o + l ≤ cap) (ho' : o' + l' ≤ cap) :
    Apart (k * cap + o) l (k' * cap + o') l' := by
  unfold Apart
  obtain ⟨rfl, rfl⟩ | ⟨rfl, rfl⟩ : (k = 0 ∧ k' = 1) ∨ (k = 1 ∧ k' = 0) := by omega
  · omega
  · omega

/-- A grant is apart from every range already given out. -/
theorem apart_of_grantAt {i off len : Nat} {s t : State} {h l : Nat} (hg : GrantAt i off len s t) (hs : Pointed s) (hh : Within s h l) :
    Apart h l (handleOf s.cfg.logBufCap i off).toNat len := by
  obtain ⟨k, o, hk, rfl, ho⟩ := hh
  have hcap := logBufCap_of_wf hs.params
  have hroom := hg.room
  rw [handleOf_toNat (by omega) hg.idx (by omega)]
  by_cases hki : k = i
  · subst hki
    rw [hg.given_eq] at ho
    exact .inl (by omega)
  · exact apart_of_buffers hk hg.idx hki (ho.trans (given_le hs k)) hroom

/-! ### The returned values of a run of checkouts -/

/-- The calls made so far, by their lengths, and what they returned: every range granted is held, and they are apart. -/
structure Trace (lens : List U32) (s : State) : Prop where
  length : s.env.irqRets.length = lens.length
  held : ∀ (n : Nat) (h l : U32), lens[n]? = some l → s.env.irqRets[n]? = some (.word h) → Held s h.toNat l.toNat
  apart : ∀ (m n : Nat) (hm hn lm ln : U32), m < n → lens[m]? = some lm → lens[n]? = some ln →
    s.env.irqRets[m]? = some (.word hm) → s.env.irqRets[n]? = some (.word hn) → Apart hm.toNat lm.toNat hn.toNat ln.toNat

theorem Trace.nil {s : State} (h : s.env.irqRets = []) : Trace [] s :=
  ⟨by rw [h]; rfl, fun _ _ _ hl => by simp at hl, fun _ _ _ _ _ _ _ hl => by simp at hl⟩

/-- Where nothing is granted and nothing returned the trace stays. -/
theorem Trace.noGrant {lens : List U32} {s t : State} (h : Trace lens s) (hst : NoGrant s t) (henv : t.env.irqRets = s.env.irqRets) :
    Trace lens t := by
  refine ⟨by rw [henv]; exact h.length, ?_, ?_⟩
  · rw [henv]
    exact fun n w l hl hw => (h.held n w l hl hw).noGrant hst
  · rw [henv]
    exact h.apart

/-- An element of a list with one more at its end. -/
theorem getElem?_concat_cases {α : Type} {xs : List α} {x y : α} {n : Nat} (h : (xs ++ [x])[n]? = some y) :
    (n < xs.length ∧ xs[n]? = some y) ∨ (n = xs.length ∧ y = x) := by
  rcases Nat.lt_trichotomy n xs.length with hn | hn | hn
  · exact .inl ⟨hn, by rwa [List.getElem?_append_left hn] at h⟩
  · subst hn
    exact .inr ⟨rfl, by simpa using h.symm⟩
  · rw [List.getElem?_eq_none (by simp; omega)] at h
    cases h

/-- A checkout in irq context: what it returns is recorded, and is a range given out by it alone. -/
theorem irqCall_checkout {len : U32} {s t : State} (h : irqCall (.checkout len) s = .ok t) (hctx : s.env.ctx = .irq) (hs : Pointed s) :
    ∃ r, t.env.irqRets = s.env.irqRets ++ [r] ∧ t.env.ctx = .irq ∧ (∀ h' l', Held s h' l' → Held t h' l') ∧
      ∀ w, r = .word w → Held t w.toNat len.toNat ∧ ∀ h' l', Within s h' l' → Apart h' l' w.toNat len.toNat := by
  obtain ⟨⟨g, u⟩, hu, h⟩ := bind_eq_ok h
  cases h
  have hframe := checkoutWith_frame (still_noPreempt s) hu
  have henv : u.env = s.env := by rw [hframe]
  have hrets : (putRet g.ret u).env.irqRets = s.env.irqRets ++ [g.ret] ∧ (putRet g.ret u).env.ctx = .irq := by
    unfold putRet
    simp [State.onEnv, henv, hctx]
  refine ⟨g.ret, hrets.1, hrets.2, ?_⟩
  rcases checkoutWith_still_cases (still_noPreempt s) hu with ⟨e, rfl, hnone⟩ | ⟨i, off, rfl, hgrant⟩
  · exact ⟨fun h' l' hh => hh.noGrant (hnone.trans (noGrant_putRet _ u)), fun w hw => by cases hw⟩
  · have hafter := hgrant.after (noGrant_putRet (Grant.handle (handleOf s.cfg.logBufCap i off)).ret u)
    refine ⟨fun h' l' hh => hh.granted hafter hs, fun w hw => ?_⟩
    cases hw
    exact ⟨held_of_grantAt hafter hs, fun h' l' hh => apart_of_grantAt hafter hs hh⟩

theorem trace_irqCall {lens : List U32} {len : U32} {s t : State} (h : irqCall (.checkout len) s = .ok t) (hctx : s.env.ctx = .irq)
    (hs : Pointed s) (htrace : Trace lens s) : Trace (lens ++ [len]) t := by
  obtain ⟨r, hrets, _, hkeeps, hnew⟩ := irqCall_checkout h hctx hs
  refine ⟨by rw [hrets]; simp [htrace.length], ?_, ?_⟩
  · intro n w l hl hw
    rw [hrets] at hw
    rcases getElem?_concat_cases hl with ⟨hn, hl⟩ | ⟨hn, rfl⟩ <;> rcases getElem?_concat_cases hw with ⟨hn', hw⟩ | ⟨hn', hw⟩
    · exact hkeeps _ _ (htrace.held n w l hl hw)
    · rw [htrace.length] at hn'; omega
    · rw [htrace.length] at hn'; omega
    · exact (hnew w hw.symm).1
  · intro m n hm hn lm ln hmn hlm hln hwm hwn
    rw [hrets] at hwm hwn
    rcases getElem?_concat_cases hlm with ⟨hm', hearlier⟩ | ⟨hm', rfl⟩
    · have hwm := (getElem?_concat_cases hwm).resolve_right fun ⟨e, _⟩ => by rw [htrace.length] at e; omega
      rcases getElem?_concat_cases hln with ⟨hn', hln⟩ | ⟨hn', rfl⟩
      · have hwn := (getElem?_concat_cases hwn).resolve_right fun ⟨e, _⟩ => by rw [htrace.length] at e; omega
        exact htrace.apart m n hm hn lm ln hmn hearlier hln hwm.2 hwn.2
      · have hwn := (getElem?_concat_cases hwn).resolve_left fun ⟨e, _⟩ => by rw [htrace.length] at e; omega
        exact (hnew hn hwn.2.symm).2 _ _ (htrace.held m hm lm hearlier hwm.2).within
    · have hlen := (List.getElem?_eq_some_iff.mp hln).1
      simp only [List.length_append, List.length_singleton] at hlen
      omega

theorem trace_irqCalls {lens batch : List U32} {s t : State} (h : irqCalls (batch.map Instr.checkout) s = .ok t)
    (hctx : s.env.ctx = .irq) (hs : Pointed s) (htrace : Trace lens s) : Trace (lens ++ batch) t := by
  induction batch generalizing lens s with
  | nil => cases h; simpa using htrace
  | cons len rest ih =>
    obtain ⟨u, hu, h⟩ := irqCalls_cons h
    obtain ⟨_, _, hctx', _⟩ := irqCall_checkout hu hctx hs
    have := ih h hctx' (hs.atMostOne (atMostOne_irqCall hu).1) (trace_irqCall hu hctx hs htrace)
    simpa using this

/-- At its buffer's count the insertion point is not before it. -/
theorem pointed_of_atCount {s : State} (hp : s.cfg.wf = true) (hrange : ipInRange s = true) (hat : ipAtCount s = true) : Pointed s := by
  refine ⟨hp, hrange, fun hvalid => ?_⟩
  simp only [ipAtCount, hvalid, Bool.not_true, Bool.false_or, decide_eq_true_eq] at hat
  exact Nat.le_of_eq hat

/-- Settles O19: each grant starts where its buffer is given out to, and what is given out stays so. -/
theorem grantsAreDisjoint : Obligations.GrantsAreDisjoint := by
  unfold Obligations.GrantsAreDisjoint
  intro s t lens hp hrange hat hctx hrets h m n hm hn lm ln hmn hlm hln hwm hwn
  have htrace := trace_irqCalls h hctx (pointed_of_atCount hp hrange hat) (Trace.nil hrets)
  exact htrace.apart m n hm hn lm ln hmn (by simpa using hlm) (by simpa using hln) hwm hwn

end Sys2Proof.Machine
end

section
/-! Interleavings of main's checkout with irq calls, run on concrete schedules. -/
namespace Sys2Proof.Machine
/-- A test of an outcome's next state. -/
def answers (p : State → Bool) (o : Host.Outcome State Fault Refusal) : Bool :=
  match o with
  | .next t => p t
  | _ => false

/-- Where the test passes there is a next state, and it passes there. -/
theorem exists_of_answers {p : State → Bool} {o : Host.Outcome State Fault Refusal} (h : answers p o = true) :
    ∃ t, o = .next t ∧ p t = true := by
  unfold answers at h
  split at h
  · exact ⟨_, rfl, h⟩
  · cases h

/-- Settles O23: at main's sixth atomic step, between steps 3 and 4, one irq checkout strands main's buffer; two switch away and back. -/
theorem strandedBufferHappens : Obligations.StrandedBufferHappens := by
  unfold Obligations.StrandedBufferHappens
  refine ⟨⟨[[], [], [], [], [], [.checkout 2000]], ?_⟩, ⟨[[], [], [], [], [], [.checkout 2000, .checkout 100]], ?_⟩⟩
  · obtain ⟨t, ht, hp⟩ := exists_of_answers (p := fun t => t.env.ret == .word 0 && t.sh.buf0.count == 100 && !t.sh.buf0.pending &&
        ipValid t.sh.ip && ipIdx t.sh.ip == 1)
      (o := exec (.checkout 100) { State.reset with env := { State.reset.env with irqs := [[], [], [], [], [], [.checkout 2000]] } })
      (by decide +kernel)
    simp only [Bool.and_eq_true, beq_iff_eq, Bool.not_eq_true'] at hp
    obtain ⟨⟨⟨⟨hret, hcount⟩, hpending⟩, hvalid⟩, hidx⟩ := hp
    exact ⟨t, ht, hret, hcount, hpending, hvalid, hidx⟩
  · obtain ⟨t, ht, hp⟩ := exists_of_answers (p := fun t => t.env.ret == .word 0 && t.env.irqRets == [.word 2048, .word 0])
      (o := exec (.checkout 100) { State.reset with env :=
        { State.reset.env with irqs := [[], [], [], [], [], [.checkout 2000, .checkout 100]] } })
      (by decide +kernel)
    simp only [Bool.and_eq_true, beq_iff_eq] at hp
    obtain ⟨hret, hrets⟩ := hp
    exact ⟨t, ht, by decide, hret, hrets⟩

end Sys2Proof.Machine
end

section
/-! The bound of the counts (10_state.md R57): what a grant, main's checkout and the drain keep where of the irq calls that come at one atomic
step at most one reserves bytes (log 33). -/

namespace Sys2Proof.Machine

/-- R57's bound, and the schedule it needs. -/
structure Counting (s : State) : Prop where
  pointed : Pointed s
  cap : ∀ k, counted s k ≤ s.cfg.logBufCap
  sched : oneGrantPerStep s = true

theorem counted_eq_of {s t : State} (h : t.sh = s.sh) (k : Nat) : counted t k = counted s k := by
  unfold counted
  rw [h]

/-- Every buffer number means buffer 0 or buffer 1. -/
theorem forall_counted {s : State} {n : Nat} (h0 : counted s 0 ≤ n) (h1 : counted s 1 ≤ n) (k : Nat) : counted s k ≤ n := by
  by_cases hk : k = 0
  · exact hk ▸ h0
  · have : counted s k = counted s 1 := by simp only [counted, Shared.buf, hk, if_false, Nat.one_ne_zero]
    omega

theorem countsInRange_iff (s : State) : countsInRange s = true ↔
    (∀ k, counted s k ≤ s.cfg.logBufCap) ∧ (ipValid s.sh.ip = true → counted s (ipIdx s.sh.ip) ≤ ipOff s.sh.ip) := by
  unfold countsInRange
  simp only [Bool.and_eq_true, Bool.or_eq_true, Bool.not_eq_true', decide_eq_true_eq]
  constructor
  · rintro ⟨⟨h0, h1⟩, hip⟩
    exact ⟨forall_counted h0 h1, fun hvalid => hip.resolve_left (by simp [hvalid])⟩
  · rintro ⟨hcap, hip⟩
    exact ⟨⟨hcap 0, hcap 1⟩, by cases hvalid : ipValid s.sh.ip; exacts [.inl rfl, .inr (hip hvalid)]⟩

/-- What neither grants nor takes from the schedule. -/
theorem Counting.noGrant {s t : State} (hs : Counting s) (h : NoGrant s t) (hirqs : t.env.irqs = s.env.irqs) : Counting t where
  pointed := hs.pointed.congr h
  cap := fun k => by rw [counted_noGrant h, h.cfg]; exact hs.cap k
  sched := by
    have hsched := hs.sched
    unfold oneGrantPerStep at hsched ⊢
    rw [hirqs]
    exact hsched

/-- The shared fields, the parameters and the schedule are as they were. -/
structure Untouched (s t : State) : Prop where
  cfg : t.cfg = s.cfg
  sh : t.sh = s.sh
  irqs : t.env.irqs = s.env.irqs

theorem Untouched.refl (s : State) : Untouched s s := ⟨rfl, rfl, rfl⟩

theorem Untouched.noGrant {s t : State} (h : Untouched s t) : NoGrant s t := ⟨h.cfg, by rw [h.sh], fun _ => by rw [h.sh]⟩

theorem Counting.untouched {s t : State} (hs : Counting s) (h : Untouched s t) : Counting t := hs.noGrant h.noGrant h.irqs

theorem untouched_putRet (r : Ret) (s : State) : Untouched s (putRet r s) := ⟨rfl, rfl, by rw [putRet_env]⟩

theorem untouched_of_sdRun {s t : State} (h : SdRun s t) : Untouched s t := ⟨h.cfg, h.sh, by rw [h.env]⟩

/-! ### One grant -/

/-- One grant keeps every count within the capacity. -/
theorem cap_of_grantAt {i off len : Nat} {s t : State} (hs : Pointed s) (hcap : ∀ k, counted s k ≤ s.cfg.logBufCap)
    (h : GrantAt i off len s t) (k : Nat) : counted t k ≤ t.cfg.logBufCap := by
  have hg := h.granted hs
  have hroom := h.room
  have hstart := hg.start
  rw [h.cfg]
  by_cases hk : (i = 0) = (k = 0)
  · have : counted t k = counted t i := by simp only [counted, Shared.buf, hk]
    rw [this, hg.counted]
    omega
  · have : counted t k = counted s k := by unfold counted; rw [h.other k hk]
    rw [this]
    exact hcap k

theorem cap_of_atMostOne {s t : State} (hs : Pointed s) (hcap : ∀ k, counted s k ≤ s.cfg.logBufCap) (h : AtMostOne s t) (k : Nat) :
    counted t k ≤ t.cfg.logBufCap := by
  rcases h with h | ⟨i, off, len, h⟩
  · rw [counted_noGrant h, h.cfg]; exact hcap k
  · exact cap_of_grantAt hs hcap h k

theorem cap_irqCalls {batch : List Instr} {s t : State} (h : irqCalls batch s = .ok t) (hs : Pointed s)
    (hcap : ∀ k, counted s k ≤ s.cfg.logBufCap) : ∀ k, counted t k ≤ t.cfg.logBufCap := by
  induction batch generalizing s with
  | nil => cases h; exact hcap
  | cons i rest ih =>
    obtain ⟨u, hu, h⟩ := irqCalls_cons h
    have hone := (atMostOne_irqCall hu).1
    exact ih h (hs.atMostOne hone) (cap_of_atMostOne hs hcap hone)

/-- At an atomic step at most one grant is made, and the bound is kept. -/
theorem counting_preemptPoint {s t : State} (h : preemptPoint s = .ok t) (hs : Counting s) : Counting t ∧ AtMostOne s t := by
  rcases preemptPoint_cases h with rfl | ⟨batch, rest, u, _, _, hirqs, hu, rfl⟩
  · exact ⟨hs, .inl (.refl _)⟩
  have hsched := hs.sched
  simp only [oneGrantPerStep, hirqs, List.all_cons, Bool.and_eq_true, decide_eq_true_eq] at hsched
  have henter : NoGrant s (enterIrq rest s) := ⟨rfl, rfl, fun _ => rfl⟩
  have hleave : NoGrant u (leaveIrq u) := ⟨rfl, rfl, fun _ => rfl⟩
  have hone : AtMostOne s (leaveIrq u) := by
    rcases (atMostOne_irqCalls hu).2 hsched.1 with h | ⟨i, off, len, h⟩
    · exact .inl ((henter.trans h).trans hleave)
    · exact .inr ⟨i, off, len, (h.before henter).after hleave⟩
  refine ⟨⟨hs.pointed.atMostOne hone, cap_of_atMostOne hs.pointed hs.cap hone, ?_⟩, hone⟩
  have hsuffix : u.env.irqs <:+ rest := (resRun_irqCalls hu).irqs
  show (u.env.irqs.all _) = true
  rw [List.all_eq_true] at hsched ⊢
  exact fun b hb => hsched.2 b (hsuffix.subset hb)

/-! ### Main's checkout -/

/-- Steps 3 and 4: the bound holds between them, and after the count is added. -/
theorem counting_grant {i off len : Nat} {s t : State} (hs : Counting s) (hi : i < 2) (hcount : counted s i ≤ off)
    (hroom : off + len ≤ s.cfg.logBufCap) (hstep4 : preemptPoint (storeIp (mkIp true i (off + len)) s) = .ok t) :
    Counting (addCount i (BitVec.ofNat 32 len) t) := by
  have hcap := logBufCap_of_wf hs.pointed.params
  have hstored : Counting (storeIp (mkIp true i (off + len)) s) := by
    obtain ⟨hrange, _, hidx, hoff⟩ := ipInRange_mkIp (s := storeIp (mkIp true i (off + len)) s) hs.pointed.params hi hroom rfl
    refine ⟨⟨hs.pointed.params, hrange, fun _ => ?_⟩, hs.cap, hs.sched⟩
    rw [hidx, hoff]
    exact Nat.le_trans hcount (Nat.le_add_right _ _)
  obtain ⟨_, hvalid, hidx, hoff⟩ := ipInRange_mkIp (s := storeIp (mkIp true i (off + len)) s) hs.pointed.params hi hroom rfl
  obtain ⟨ht, hone⟩ := counting_preemptPoint hstep4 hstored
  have htcap : t.cfg.logBufCap = s.cfg.logBufCap := by rw [(hookRuns_preemptPoint hstep4).cfg]; rfl
  have hbase : counted (storeIp (mkIp true i (off + len)) s) i = counted s i := rfl
  -- where irq took bytes behind main's own, the insertion point is past both; else the count is as it was
  have hbelow : counted t i + len ≤ s.cfg.logBufCap ∧ (pointsIn t i → counted t i + len ≤ ipOff t.sh.ip) := by
    rcases hone with hnone | ⟨k, o, n, hg⟩
    · rw [counted_noGrant hnone, hbase, hnone.ip, hoff]
      exact ⟨by omega, fun _ => by omega⟩
    · have hgranted := hg.granted hstored.pointed
      have hgroom : o + n ≤ s.cfg.logBufCap := hg.room
      rcases hg.place with ⟨⟨_, hk⟩, ho⟩ | ⟨helse, _⟩
      · rw [hidx] at hk
        subst hk
        have := hgranted.off
        rw [hgranted.counted, hbase]
        omega
      · have hne : i ≠ k := fun e => helse (e ▸ ⟨hvalid, hidx⟩)
        rw [hgranted.other i hi hne, hbase]
        exact ⟨by omega, fun hp => absurd (hgranted.idx.symm.trans hp.2).symm hne⟩
  have hadded : counted (addCount i (BitVec.ofNat 32 len) t) i = counted t i + len := by
    unfold counted at hbelow ⊢
    rw [addCount_sh, Shared.buf_setBuf]
    rw [BitVec.toNat_add, BitVec.toNat_ofNat]
    omega
  have hother : ∀ k, (i = 0) ≠ (k = 0) → counted (addCount i (BitVec.ofNat 32 len) t) k = counted t k := by
    intro k hk
    unfold counted
    rw [addCount_sh, Shared.buf_setBuf_other _ _ _ _ hk]
  have hip : (addCount i (BitVec.ofNat 32 len) t).sh.ip = t.sh.ip := Shared.setBuf_ip _ _ _
  refine ⟨⟨ht.pointed.params, ?_, ?_⟩, ?_, ht.sched⟩
  · have hrange := ht.pointed.range
    unfold ipInRange at hrange ⊢
    rw [hip]
    exact hrange
  · rw [hip]
    intro hv
    by_cases hk : ipIdx t.sh.ip = i
    · rw [hk, hadded]; exact hbelow.2 ⟨hv, hk⟩
    · have := ipIdx_lt (ipInRange_fields ht.pointed.range).1
      rw [hother _ (by simp only [ne_eq, eq_iff_iff]; omega)]
      exact ht.pointed.count hv
  · intro k
    show _ ≤ t.cfg.logBufCap
    by_cases hk : (i = 0) = (k = 0)
    · have : counted (addCount i (BitVec.ofNat 32 len) t) k = counted (addCount i (BitVec.ofNat 32 len) t) i := by
        simp only [counted, Shared.buf, hk]
      rw [this, hadded, htcap]; exact hbelow.1
    · rw [hother k hk]; exact ht.cap k

/-- Step 6 keeps the bound, and the candidate found is empty. -/
theorem counting_firstEmpty {ks : List Nat} {s t : State} {o : Option Nat} (h : firstEmpty preemptPoint ks s = .ok (o, t))
    (hs : Counting s) : Counting t ∧ ∀ j, o = some j → counted t j = 0 := by
  induction ks generalizing s with
  | nil => cases h; exact ⟨hs, nofun⟩
  | cons k rest ih =>
    obtain ⟨s1, hs1, ⟨hempty, rfl, rfl⟩ | ⟨_, hrest⟩⟩ := firstEmpty_cons h
    · refine ⟨(counting_preemptPoint hs1 hs).1, fun j hj => ?_⟩
      cases hj
      rw [counted, hempty]
      rfl
    · exact ih hrest (counting_preemptPoint hs1 hs).1

theorem counting_vacate {v : Bool} {i : Nat} {s t : State} (h : vacate preemptPoint v i s = .ok t) (hs : Counting s) : Counting t := by
  rcases vacate_cases h with ⟨_, rfl⟩ | ⟨_, s1, hs1, ⟨_, rfl⟩ | ⟨_, s2, hs2, rfl⟩⟩
  · exact hs
  · exact (counting_preemptPoint hs1 hs).1
  · exact (counting_preemptPoint hs2 (counting_preemptPoint hs1 hs).1).1.noGrant (noGrant_storePending _ _ s2) rfl

/-- Step 8: the candidate is still empty where the insertion point is still the word without room. -/
theorem counting_switch {j : Nat} {old : U32} {s t : State} (hs : Counting s) (hi : ipIdx old < 2)
    (hj : j ∈ candidates (ipValid old) (ipIdx old)) (hempty : counted s j = 0)
    (hstep8 : preemptPoint s = .ok t) (hsame : t.sh.ip = old) : Counting (storeIp (mkIp true j 0) t) := by
  obtain ⟨ht, hone⟩ := counting_preemptPoint hstep8 hs
  have hj2 := candidates_lt hi hj
  have hstill : counted t j = 0 := by
    rcases hone with hnone | ⟨k, o, n, hg⟩
    · rw [counted_noGrant hnone, hempty]
    · have hgranted := hg.granted hs.pointed
      have hvalid := hgranted.valid
      have hidx := hgranted.idx
      rw [hsame] at hvalid hidx
      rw [hvalid, candidates, if_pos rfl, List.mem_singleton, other_eq hi] at hj
      rw [hgranted.other j hj2 (by omega), hempty]
  obtain ⟨hrange, _, hidx, hoff⟩ := ipInRange_mkIp (s := storeIp (mkIp true j 0) t) ht.pointed.params hj2 (Nat.zero_le _) rfl
  refine ⟨⟨ht.pointed.params, hrange, fun _ => ?_⟩, ht.cap, ht.sched⟩
  rw [hidx, hoff]
  exact Nat.le_of_eq hstill

theorem counting_checkoutRuns {len : Nat} {old : U32} {s t : State} {g : Grant} (h : CheckoutRuns preemptPoint len old s g t)
    (hs : Counting s) : Counting t := by
  induction h with
  | @granted old s s1 s2 s3 hwf hroom hstep2 hstep3 hsame hstep4 =>
    have h1 := ((counting_preemptPoint hstep2 hs).1).noGrant (noGrant_addCheckout (ipIdx old) s1) rfl
    have h2 := (counting_preemptPoint hstep3 h1).1
    have hcfg : s2.cfg = s.cfg := (hookRuns_preemptPoint hstep3).cfg.trans (hookRuns_preemptPoint hstep2).cfg
    simp only [hasRoom, Bool.and_eq_true, decide_eq_true_eq, ← hcfg] at hroom
    have hcount := h2.pointed.count
    rw [hsame] at hcount
    exact counting_grant h2 (ipIdx_lt hwf) (hcount hroom.1) hroom.2 hstep4
  | @lost old s s1 s2 s3 t g hwf hroom hstep2 hstep3 hother hstep5 rest ih =>
    have h1 := ((counting_preemptPoint hstep2 hs).1).noGrant (noGrant_addCheckout (ipIdx old) s1) rfl
    exact ih (((counting_preemptPoint hstep5 (counting_preemptPoint hstep3 h1).1).1).noGrant (noGrant_subCheckout (ipIdx old) s3) rfl)
  | @full old s s1 s2 hwf hroom hstep6 hstep7 =>
    exact (counting_preemptPoint hstep7 (counting_firstEmpty hstep6 hs).1).1.noGrant (noGrant_addMissed s2) rfl
  | @switched old s s1 s2 s3 t g j hwf hroom hstep6 hstep8 hsame hstep9 rest ih =>
    obtain ⟨h1, hempty⟩ := counting_firstEmpty hstep6 hs
    exact ih (counting_vacate hstep9 (counting_switch h1 (ipIdx_lt hwf) (firstEmpty_mem hstep6) (hempty j rfl) hstep8 hsame))
  | raced hwf hroom hstep6 hstep8 hother rest ih =>
    exact ih (counting_preemptPoint hstep8 (counting_firstEmpty hstep6 hs).1).1

theorem counting_checkoutWith {len : Nat} {s t : State} {g : Grant} (h : checkoutWith preemptPoint len s = .ok (g, t))
    (hs : Counting s) : Counting t := by
  rcases checkoutWith_cases h with ⟨_, _, rfl⟩ | ⟨_, _, s1, hs1, hrun⟩
  · exact hs
  · exact counting_checkoutRuns hrun (counting_preemptPoint hs1 hs).1

/-! ### The producers -/

theorem counting_checkinWith {h : Nat} {s t : State} {e : Err} (hc : checkinWith preemptPoint h s = .ok (e, t)) (hs : Counting s) :
    Counting t := by
  rcases checkinWith_cases hc with ⟨_, rfl⟩ | ⟨s1, hs1, ⟨_, rfl⟩ | ⟨_, rfl⟩⟩
  · exact hs
  · exact (counting_preemptPoint hs1 hs).1
  · exact (counting_preemptPoint hs1 hs).1.noGrant (noGrant_subCheckout _ s1) rfl

theorem untouched_copySegments {segs : List (HostAddr × U32)} {p : Nat} {s t : State} (h : copySegments p segs s = .ok t) :
    Untouched s t := by
  induction segs generalizing p s with
  | nil => cases h; exact .refl _
  | cons x rest ih =>
    obtain ⟨b, _, h⟩ := bind_eq_ok h
    obtain ⟨u, hu, h⟩ := bind_eq_ok h
    obtain ⟨_, rfl⟩ := writeBytes_ok hu
    obtain ⟨hcfg, hsh, hirqs⟩ := ih h
    exact ⟨hcfg, hsh, hirqs⟩

theorem counting_appendRecord {total : Nat} {segs : List (HostAddr × U32)} {s t : State} {e : Err}
    (h : appendRecord preemptPoint total segs s = .ok (e, t)) (hs : Counting s) : Counting t := by
  rcases appendRecord_cases h with h | ⟨w, s1, s2, e', hg, hcopy, hin, _⟩
  · exact counting_checkoutWith h hs
  · exact counting_checkinWith hin ((counting_checkoutWith hg hs).untouched (untouched_copySegments hcopy))

theorem counting_hostQuery {a : HostAddr} {n : Nat} {f : List Byte → Ret} {s t : State} (h : toOutcome (hostQuery a n f s) = .next t)
    (hs : Counting s) : Counting t := by
  obtain ⟨b, _, hok⟩ := bind_eq_ok (toOutcome_eq_next.mp h)
  cases hok
  exact hs.untouched (untouched_putRet _ _)

theorem counting_hostStore {a : HostAddr} {off : Nat} {bytes : List Byte} {r : Ret} {s t : State}
    (h : toOutcome (hostStore a off bytes r s) = .next t) (hs : Counting s) : Counting t := by
  have h := toOutcome_eq_next.mp h
  unfold hostStore at h
  split at h <;> cases h
  exact Counting.untouched (s := s.poke .host (a.toNat + off) bytes) (hs.untouched ⟨rfl, rfl, rfl⟩) (untouched_putRet _ _)

theorem counting_indexed {p : Prop} [Decidable p] {s t : State} {o : Host.Outcome State Fault Refusal}
    (h : (if p then .next (putCode .rejected s) else o) = .next t) (ho : o = .next t → Counting s → Counting t) (hs : Counting s) :
    Counting t := by
  split at h
  · cases h; exact hs.untouched (untouched_putRet _ _)
  · exact ho h hs

theorem counting_call {i : Instr} {s t : State} (h : callFromCallback i s = .next t) (hs : Counting s) : Counting t := by
  cases i
  case checkout len =>
    obtain ⟨⟨g, u⟩, hu, hok⟩ := bind_eq_ok (toOutcome_eq_next.mp h)
    cases hok
    exact (counting_checkoutWith hu hs).untouched (untouched_putRet _ _)
  case checkin handle =>
    obtain ⟨⟨e, u⟩, hu, hok⟩ := bind_eq_ok (toOutcome_eq_next.mp h)
    cases hok
    exact (counting_checkinWith hu hs).untouched (untouched_putRet _ _)
  case log data len =>
    obtain ⟨⟨e, u⟩, hu, hok⟩ := bind_eq_ok (toOutcome_eq_next.mp h)
    cases hok
    exact (counting_appendRecord hu hs).untouched (untouched_putRet _ _)
  case logGather segments count =>
    obtain ⟨⟨e, u⟩, hu, hok⟩ := bind_eq_ok (toOutcome_eq_next.mp h)
    cases hok
    refine Counting.untouched ?_ (untouched_putRet _ _)
    rcases logGatherWith_cases hu with rfl | ⟨segs, hu⟩
    · exact hs
    · exact counting_appendRecord hu hs
  case missedCheckouts =>
    obtain ⟨u, hu, hok⟩ := bind_eq_ok (toOutcome_eq_next.mp h)
    cases hok
    exact (counting_preemptPoint hu hs).1.untouched (untouched_putRet _ _)
  case read addr count buf cb ctx =>
    cases h
    refine Counting.untouched (s := (startOp .read addr count ⟨.host, buf⟩ (.client cb) ctx s).2) ?_ (untouched_putRet _ _)
    rcases startOp_cases .read addr count ⟨.host, buf⟩ (.client cb) ctx s with ⟨_, e⟩ | ⟨_, e⟩ <;> rw [e] <;> exact hs.untouched ⟨rfl, rfl, rfl⟩
  case write addr count buf cb ctx =>
    cases h
    refine Counting.untouched (s := (startOp .write addr count ⟨.host, buf⟩ (.client cb) ctx s).2) ?_ (untouched_putRet _ _)
    rcases startOp_cases .write addr count ⟨.host, buf⟩ (.client cb) ctx s with ⟨_, e⟩ | ⟨_, e⟩ <;> rw [e] <;> exact hs.untouched ⟨rfl, rfl, rfl⟩
  case pause | resume | setFlightTimestamp =>
    cases h
    refine Counting.untouched ?_ (untouched_putRet _ _)
    split <;> exact hs.untouched ⟨rfl, rfl, rfl⟩
  case mbrInitTable | sbInit => exact counting_hostStore h hs
  case mbrGetEntry | sbFlightGet => exact counting_indexed h counting_hostQuery hs
  case mbrInitEntry | sbFlightSet => exact counting_indexed h counting_hostStore hs
  case crc7 | crc16 | parseResponse | csdCapacity | mbrIsValid | mbrEntryIsValid | mbrEntryType | mbrEntryStartLba | mbrEntryLength
      | sbIsValid | sbVersion | sbContinued | sbPartitionLength | sbFlightSlotFor =>
    exact counting_hostQuery h hs
  case status | capacityBlocks | sdState | sdLastError | logState | logFailReason | flightBlocks | crc16Update | buildCommand
      | hdrEncode | hdrDecode =>
    cases h
    exact hs.untouched (untouched_putRet _ _)
  all_goals cases h

/-! ### The log engine -/

/-- A buffer that holds bytes and does not have the insertion point in it, as the drain leaves the one it selects. -/
def Vacated (b : Nat) (s : State) : Prop := counted s b ≠ 0 ∧ ¬pointsIn s b

theorem Vacated.noGrant {b : Nat} {s t : State} (hb : Vacated b s) (h : NoGrant s t) : Vacated b t := by
  unfold Vacated pointsIn at hb ⊢
  rw [counted_noGrant h, h.ip]
  exact hb

/-- No grant goes to a vacated buffer. -/
theorem Vacated.atMostOne {b : Nat} {s t : State} (hb2 : b < 2) (hs : Pointed s) (hb : Vacated b s) (h : AtMostOne s t) : Vacated b t := by
  rcases h with hnone | ⟨i, off, len, hg⟩
  · exact hb.noGrant hnone
  · have hgranted := hg.granted hs
    have hne : b ≠ i := by
      rintro rfl
      rcases hg.place with ⟨hp, _⟩ | ⟨_, _, hempty, _⟩
      · exact hb.2 hp
      · exact hb.1 (by rw [counted, hempty]; rfl)
    refine ⟨?_, fun hp => hne (hp.2.symm.trans hgranted.idx)⟩
    rw [hgranted.other b hb2 hne]
    exact hb.1

/-- After the marks the insertion point is not in a pending buffer (R390). -/
theorem drainMark_pending {s : State} (hvalid : ipValid (drainMark s).sh.ip = true) :
    ((drainMark s).sh.buf (ipIdx (drainMark s).sh.ip)).pending = false := by
  have hmark : ∃ u : State, drainMark s = nullIp u.sh.ip u := by
    refine ⟨markAged (markFull 1 (markFull 0 s)).sh.ip (markFull 1 (markFull 0 s)), ?_⟩
    rw [markAged_ip]
    rfl
  obtain ⟨u, hu⟩ := hmark
  rw [hu] at hvalid ⊢
  unfold nullIp at hvalid ⊢
  split at hvalid
  · rw [storeIp_sh, ipValid_ipNull] at hvalid
    cases hvalid
  next hpending =>
    rw [if_neg hpending]
    simpa [hvalid] using hpending

/-- The buffer selected holds bytes, and the insertion point is not in it (R390, R391). -/
theorem vacated_drainSection {s : State} {r : Option Nat × State} {b : Nat} (h : drainSection s = .ok r) (hb : r.1 = some b) :
    b < 2 ∧ Vacated b r.2 := by
  obtain ⟨_, rfl⟩ := drainSection_cases h
  dsimp only at hb ⊢
  generalize hm : drainMark (s.onEnv fun e => { e with critical := true }) = m at hb ⊢
  have hpending : ipValid m.sh.ip = true → (m.sh.buf (ipIdx m.sh.ip)).pending = false := by
    rw [← hm]; exact drainMark_pending
  obtain ⟨hb2, hsel, hdrain, hholds⟩ : b < 2 ∧ (drainSelect m).2 = m ∧ drainable (m.sh.buf b) = true ∧ (m.sh.buf b).count ≠ 0 := by
    unfold drainSelect at hb ⊢
    dsimp only at hb ⊢
    split at hb
    · cases hb
    next i hi =>
      split at hb
      · cases hb
      next hcount =>
        cases hb
        rw [if_neg hcount]
        split at hi
        next h0 => cases hi; exact ⟨by omega, rfl, h0, hcount⟩
        next =>
          split at hi
          next h1 => cases hi; exact ⟨by omega, rfl, h1, hcount⟩
          next => cases hi
  rw [hsel]
  refine ⟨hb2, fun h0 => hholds (BitVec.eq_of_toNat_eq h0), ?_⟩
  rintro ⟨hvalid, hidx⟩
  have := hpending hvalid
  simp only [drainable, Bool.and_eq_true] at hdrain
  have hidx : ipIdx m.sh.ip = b := hidx
  rw [hidx, hdrain.1] at this
  cases this

/-- A store of a count within the capacity, in a buffer the insertion point is not in or of 0. -/
theorem Counting.storeCount {b n : Nat} {s : State} (hs : Counting s) (hn : n ≤ s.cfg.logBufCap)
    (hb : n = 0 ∨ (b < 2 ∧ ¬pointsIn s b)) : Counting (storeCount b (BitVec.ofNat 32 n) s) := by
  have hcap := logBufCap_of_wf hs.pointed.params
  have hip : (Machine.storeCount b (BitVec.ofNat 32 n) s).sh.ip = s.sh.ip := Shared.setBuf_ip _ _ _
  have hstored : ∀ k, (b = 0) = (k = 0) → counted (Machine.storeCount b (BitVec.ofNat 32 n) s) k = n := by
    intro k hk
    have hbuf : ∀ x : Shared, x.buf k = x.buf b := fun x => by simp only [Shared.buf, hk]
    rw [counted, storeCount_sh, hbuf, Shared.buf_setBuf, BitVec.toNat_ofNat]
    exact Nat.mod_eq_of_lt (by omega)
  have hother : ∀ k, (b = 0) ≠ (k = 0) → counted (Machine.storeCount b (BitVec.ofNat 32 n) s) k = counted s k := by
    intro k hk
    rw [counted, storeCount_sh, Shared.buf_setBuf_other _ _ _ _ hk]
    rfl
  refine ⟨⟨hs.pointed.params, ?_, ?_⟩, ?_, hs.sched⟩
  · have hrange := hs.pointed.range
    unfold ipInRange at hrange ⊢
    rw [hip]
    exact hrange
  · rw [hip]
    intro hvalid
    by_cases hk : (b = 0) = (ipIdx s.sh.ip = 0)
    · rw [hstored _ hk]
      rcases hb with rfl | ⟨hb2, hb⟩
      · exact Nat.zero_le _
      · have := ipIdx_lt (ipInRange_fields hs.pointed.range).1
        simp only [eq_iff_iff] at hk
        exact absurd ⟨hvalid, by omega⟩ hb
    · rw [hother _ hk]; exact hs.pointed.count hvalid
  · intro k
    by_cases hk : (b = 0) = (k = 0)
    · rw [hstored k hk]; exact hn
    · rw [hother k hk]; exact hs.cap k

theorem counting_drainSection {s : State} {r : Option Nat × State} (h : drainSection s = .ok r) (hs : Counting s) : Counting r.2 := by
  obtain ⟨hframe, hcount, hip⟩ := drainSection_frame h
  have hcfg : r.2.cfg = s.cfg := by rw [hframe]
  refine ⟨⟨hcfg ▸ hs.pointed.params, ipInRange_of_null hcfg hip hs.pointed.range, fun hvalid => ?_⟩, fun k => ?_, ?_⟩
  · rcases hip with hip | hip
    · unfold counted
      rw [hip, hcount]
      exact hs.pointed.count (hip ▸ hvalid)
    · rw [hip, ipValid_ipNull] at hvalid
      cases hvalid
  · unfold counted
    rw [hcount, hcfg]
    exact hs.cap k
  · have hsched := hs.sched
    unfold oneGrantPerStep at hsched ⊢
    rw [hframe]
    exact hsched

/-- The padding ends at a block boundary, and a capacity is one (R12, R392). -/
theorem counting_drainPad {b : Nat} {s t : State} (h : drainPad preemptPoint b s = .ok t) (hb2 : b < 2) (hb : Vacated b s)
    (hs : Counting s) : Counting t := by
  obtain ⟨s1, hs1, ⟨_, rfl⟩ | ⟨hblock, s2, s3, hw, hs3, rfl⟩⟩ := drainPad_cases h
  · exact (counting_preemptPoint hs1 hs).1
  obtain ⟨h1, hone1⟩ := counting_preemptPoint hs1 hs
  obtain ⟨_, rfl⟩ := writeBytes_ok hw
  have hpoke := noGrant_poke s1 .logbuf (handleOf s1.cfg.logBufCap b (s1.sh.buf b).count.toNat).toNat
    (padBytes s1.cfg (512 - (s1.sh.buf b).count.toNat % 512))
  obtain ⟨h3, hone3⟩ := counting_preemptPoint hs3 (h1.noGrant hpoke rfl)
  have hvacated := ((hb.atMostOne hb2 hs.pointed hone1).noGrant hpoke).atMostOne hb2 (h1.noGrant hpoke rfl).pointed hone3
  have hcfg : s3.cfg = s1.cfg := (hookRuns_preemptPoint hs3).cfg
  have hmod : s1.cfg.logBufCap % 512 = 0 := by
    have hwf := h1.pointed.params
    simp only [Params.wf, Bool.and_eq_true, beq_iff_eq] at hwf
    omega
  have hle : (s1.sh.buf b).count.toNat ≤ s1.cfg.logBufCap := h1.cap b
  refine h3.storeCount ?_ (.inr ⟨hb2, hvacated.2⟩)
  rw [hcfg]
  omega

theorem counting_drain {s : State} {r : Ctl × State} (h : drain preemptPoint s = .ok r) (hs : Counting s) : Counting r.2 := by
  obtain ⟨sel, hsel, ⟨_, rfl⟩ | ⟨b, s1, hb, hpad, hissue⟩⟩ := drain_cases h
  · exact counting_drainSection hsel hs
  · obtain ⟨hb2, hvacated⟩ := vacated_drainSection hsel hb
    have h1 := counting_drainPad hpad hb2 hvacated (counting_drainSection hsel hs)
    obtain ⟨s2, hs2, hrest⟩ := drainIssue_cases hissue
    have h2 := (counting_preemptPoint hs2 h1).1
    rcases hrest with ⟨_, rfl⟩ | ⟨_, _, rfl⟩ | ⟨_, _, rfl⟩ <;> exact h2.untouched ⟨rfl, rfl, rfl⟩

theorem untouched_acquire (block : U32) (pending : LogState) (s : State) : Untouched s (acquire block pending s).2 := by
  unfold acquire
  split
  · exact ⟨rfl, rfl, rfl⟩
  · split
    · exact .refl s
    · rcases startOp_cases .read block 1 ⟨.sbimg, 0⟩ .logRead 0 s with ⟨_, e⟩ | ⟨_, e⟩ <;> rw [e] <;> exact ⟨rfl, rfl, rfl⟩

theorem untouched_persist {kind : SbKind} {s t : State} (h : persist kind s = .ok t) : Untouched s t := by
  have hstored : Untouched s (storeFlight s.lg.flightIdx.toNat s.lg.flFirst s.lg.flNum s.lg.flTs s) := ⟨rfl, rfl, rfl⟩
  obtain ⟨_, hcases⟩ := persist_cases h
  generalize storeFlight s.lg.flightIdx.toNat s.lg.flFirst s.lg.flNum s.lg.flTs s = u at hstored hcases
  obtain ⟨hcfg, hsh, hirqs⟩ := hstored
  rcases hcases with ⟨_, rfl⟩ | ⟨_, rfl⟩ <;> exact ⟨hcfg, hsh, hirqs⟩

theorem untouched_parseTable (s : State) : Untouched s (parseTable s) := by
  unfold parseTable
  split
  · exact ⟨rfl, rfl, rfl⟩
  · split <;> exact ⟨rfl, rfl, rfl⟩

theorem untouched_parseSuperblock (s : State) : Untouched s (parseSuperblock s) := by
  unfold parseSuperblock selectFlight
  split
  · exact ⟨rfl, rfl, rfl⟩
  · split
    · exact ⟨rfl, rfl, rfl⟩
    · split <;> exact ⟨rfl, rfl, rfl⟩

theorem counting_activeHandler {s : State} {r : Ctl × State} (h : activeHandler preemptPoint s = .ok r) (hs : Counting s) :
    Counting r.2 := by
  unfold activeHandler at h
  split at h
  · cases h; exact hs
  split at h
  · cases h; exact hs.untouched ⟨rfl, rfl, rfl⟩
  split at h
  · exact hs.untouched (untouched_persist (persist_map h).1)
  split at h
  · exact hs.untouched (untouched_persist (persist_map h).1)
  split at h
  · exact hs.untouched (untouched_persist (persist_map h).1)
  · exact counting_drain h hs

theorem counting_logHandler {s : State} {r : Ctl × State} (h : logHandler preemptPoint s = .ok r) (hs : Counting s) : Counting r.2 := by
  unfold logHandler at h
  split at h
  case h_1 => cases h; exact hs.untouched (untouched_acquire _ _ s)
  case h_2 => cases h; exact hs.untouched (untouched_acquire _ _ s)
  case h_5 => cases h; dsimp only; exact hs.untouched (untouched_parseTable s)
  case h_6 => cases h; dsimp only; exact hs.untouched (untouched_parseSuperblock s)
  case h_7 => exact counting_activeHandler h hs
  case h_8 =>
    cases h
    unfold pausedHandler
    split
    · exact hs.untouched ⟨rfl, rfl, rfl⟩
    · exact hs
  all_goals cases h; exact hs

theorem counting_logDataCb {c : CbCall} {s t : State} (h : logDataCb preemptPoint c s = .ok t) (hs : Counting s) : Counting t := by
  obtain ⟨_, rfl | ⟨s1, s2, hs1, hs2, rfl⟩⟩ := logDataCb_cases h
  · exact hs.untouched ⟨rfl, rfl, rfl⟩
  · have h1 := (counting_preemptPoint hs1 (hs.untouched ⟨rfl, rfl, rfl⟩)).1
    have h2 := (counting_preemptPoint hs2 (h1.noGrant (noGrant_storePending _ _ s1) rfl)).1
    exact h2.storeCount (Nat.zero_le _) (.inl rfl)

theorem untouched_logReadCb (c : CbCall) (s : State) : Untouched s (logReadCb c s) := by
  unfold logReadCb
  dsimp only
  split
  · exact ⟨rfl, rfl, rfl⟩
  · split <;> exact ⟨rfl, rfl, rfl⟩

/-! ### Every step -/

theorem counting_part {s t : State} (h : Part s t) (hs : Counting s) : Counting t := by
  cases h with
  | handler h => exact hs.untouched (untouched_of_sdRun (sdRun_sdHandler h))
  | deliver h => exact hs.untouched (untouched_of_sdRun (sdRun_deliver h))
  | removal => exact hs.untouched (untouched_of_sdRun (sdRun_removal s))
  | logHandler h => exact counting_logHandler h hs
  | @logRead _ c => exact Counting.untouched (s := callbackTaken s) (hs.untouched ⟨rfl, rfl, rfl⟩) (untouched_logReadCb c _)
  | logData _ _ h => exact counting_logDataCb h (hs.untouched ⟨rfl, rfl, rfl⟩)
  | @logSb _ c => rw [(logSbCb_frame c (callbackTaken s)).1]; exact hs.untouched ⟨rfl, rfl, rfl⟩
  | toClient => exact hs.untouched ⟨rfl, rfl, rfl⟩
  | call h => exact counting_call h hs
  | records h => exact hs.untouched ⟨by rw [h], by rw [h], by rw [h]⟩

theorem countsInRange_congr {s t : State} (hcfg : t.cfg = s.cfg) (hsh : t.sh = s.sh) : countsInRange t = countsInRange s := by
  unfold countsInRange
  rw [hcfg, hsh]

/-- Settles O54: every part of a step keeps the bound, and no event of the environment touches the counts but a reset, which clears
them. -/
theorem stepKeepsBufferCounts : Obligations.StepKeepsBufferCounts := by
  unfold Obligations.StepKeepsBufferCounts
  intro s t hwf hip hcounts hsched hstep
  have hs : Counting s := by
    obtain ⟨hcap, hpoint⟩ := (countsInRange_iff s).mp hcounts
    exact ⟨⟨hwf, hip, hpoint⟩, hcap, hsched⟩
  rcases step_cases hstep with rfl | ⟨ev, u, _, hu, ⟨_, rfl⟩ | ⟨hev, hrun⟩⟩ | ⟨u, hu, hparts⟩
  · exact hcounts
  · have hip : ipValid Shared.reset.ip = false := by decide
    refine (countsInRange_iff _).mpr ⟨forall_counted (Nat.zero_le _) (Nat.zero_le _), fun hvalid => ?_⟩
    have hvalid : ipValid Shared.reset.ip = true := hvalid
    rw [hip] at hvalid
    cases hvalid
  · rw [countsInRange_congr hrun.cfg hrun.sh, countsInRange_congr (s := s) (by rw [hu]) (by rw [hu])]
    exact hcounts
  · have hend := hparts.keep counting_part (hs.untouched ⟨by rw [hu], by rw [hu], by rw [hu]⟩)
    exact (countsInRange_iff t).mpr ⟨hend.cap, hend.pointed.count⟩

end Sys2Proof.Machine
end

section
/-! The grants of a main checkout that irq checkouts preempt (45_reservation.md R431, R433, R442; log 33). -/

namespace Sys2Proof.Machine

/-! ### The insertion point at its buffer's count -/

/-- The insertion point stands where its buffer's bytes end. -/
structure Exact (s : State) : Prop where
  pointed : Pointed s
  count : ipValid s.sh.ip = true → counted s (ipIdx s.sh.ip) = ipOff s.sh.ip

theorem Exact.noGrant {s t : State} (hs : Exact s) (h : NoGrant s t) : Exact t where
  pointed := hs.pointed.congr h
  count := by
    rw [h.ip, counted_noGrant h]
    exact hs.count

/-- A grant moves the insertion point and the count alike, from the count or from 0. -/
theorem Exact.grantAt {i off len : Nat} {s t : State} (hs : Exact s) (h : GrantAt i off len s t) : Exact t where
  pointed := (h.granted hs.pointed).pointed
  count := by
    have hg := h.granted hs.pointed
    intro _
    rw [hg.idx, hg.off, hg.counted]
    rcases h.place with ⟨⟨hvalid, hidx⟩, rfl⟩ | ⟨_, rfl, hempty, _⟩
    · rw [← hidx, hs.count hvalid]
    · rw [counted, hempty]; rfl

/-- Grants one after another, as irq calls make them. -/
abbrev Grants : State → State → Prop := Relation.ReflTransGen AtMostOne

theorem grants_irqCalls {batch : List Instr} {s t : State} (h : irqCalls batch s = .ok t) : Grants s t := by
  induction batch generalizing s with
  | nil => cases h; exact .refl
  | cons i rest ih =>
    obtain ⟨u, hu, h⟩ := irqCalls_cons h
    exact .head (atMostOne_irqCall hu).1 (ih h)

theorem Exact.grants {s t : State} (hs : Exact s) (h : Grants s t) : Exact t := by
  induction h with
  | refl => exact hs
  | tail _ hstep ih =>
    rcases hstep with h | ⟨i, off, len, h⟩
    · exact ih.noGrant h
    · exact ih.grantAt h

theorem counted_mono_atMostOne {s t : State} (hs : Pointed s) (h : AtMostOne s t) {k : Nat} (hk : k < 2) : counted s k ≤ counted t k := by
  rcases h with h | ⟨i, off, len, h⟩
  · rw [counted_noGrant h]
  · have hg := h.granted hs
    by_cases hki : k = i
    · rw [hki, hg.counted]; exact Nat.le_add_right _ _
    · rw [hg.other k hk hki]

theorem counted_mono {s t : State} (hs : Exact s) (h : Grants s t) {k : Nat} (hk : k < 2) : counted s k ≤ counted t k := by
  induction h with
  | refl => exact Nat.le_refl _
  | tail hpre hstep ih => exact ih.trans (counted_mono_atMostOne (hs.grants hpre).pointed hstep hk)

/-! ### A word observed before -/

/-- The word's offset is within what its buffer counts, as it is from the load of the word on. -/
def Passed (old : U32) (s : State) : Prop := ipValid old = true → ipOff old ≤ counted s (ipIdx old)

theorem Exact.passed {s : State} (hs : Exact s) : Passed s.sh.ip s := fun hvalid => Nat.le_of_eq (hs.count hvalid).symm

theorem Passed.grants {old : U32} {s t : State} (hold : Passed old s) (hwf : ipWellFormed old = true) (hs : Exact s) (h : Grants s t) :
    Passed old t := fun hvalid => (hold hvalid).trans (counted_mono hs h (ipIdx_lt hwf))

theorem Passed.noGrant {old : U32} {s t : State} (hold : Passed old s) (h : NoGrant s t) : Passed old t := fun hvalid => by
  rw [counted_noGrant h]
  exact hold hvalid

/-- No grant leads back to a word observed before: bytes would be granted twice. -/
theorem GrantAt.ip_ne {i off len : Nat} {old : U32} {s t : State} (h : GrantAt i off len s t) (hs : Pointed s) (hold : Passed old s) :
    t.sh.ip ≠ old := by
  intro e
  have hg := h.granted hs
  have hvalid := hg.valid
  have hidx := hg.idx
  have hoff := hg.off
  rw [e] at hvalid hidx hoff
  have hpassed := hold hvalid
  have hstart := hg.start
  have hlen := h.len_ne
  rw [hidx, hoff] at hpassed
  omega

/-- A word observed before is there again only where nothing was granted since. -/
theorem noGrant_of_same {old : U32} {s t : State} (hwf : ipWellFormed old = true) (hs : Exact s) (hold : Passed old s)
    (h : Grants s t) (hsame : t.sh.ip = old) : NoGrant s t := by
  induction h with
  | refl => exact .refl s
  | tail hpre hstep ih =>
    rcases hstep with h | ⟨i, off, len, h⟩
    · exact (ih (h.ip ▸ hsame)).trans h
    · exact absurd hsame (h.ip_ne (hs.grants hpre).pointed (hold.grants hwf hs hpre))

/-! ### The schedule -/

/-- Main's checkout so far: the batches that have arrived, with what they returned, and those still to come. -/
structure Chain (batches : List (List U32)) (s : State) : Prop where
  exact : Exact s
  ctx : s.env.ctx = .main
  trace : ∃ used rest, used ++ rest = batches ∧ Trace used.flatten s ∧ s.env.irqs = rest.map (·.map Instr.checkout)

theorem Chain.noGrant {batches : List (List U32)} {s t : State} (hs : Chain batches s) (h : NoGrant s t) (henv : t.env = s.env) :
    Chain batches t where
  exact := hs.exact.noGrant h
  ctx := by rw [henv]; exact hs.ctx
  trace := by
    obtain ⟨used, rest, hall, htrace, hirqs⟩ := hs.trace
    exact ⟨used, rest, hall, htrace.noGrant h (by rw [henv]), by rw [henv]; exact hirqs⟩

/-- At an atomic step nothing happens, or the next batch arrives. -/
theorem chain_arrivals {batches used rest : List (List U32)} {s t : State} (h : preemptPoint s = .ok t) (hall : used ++ rest = batches)
    (hirqs : s.env.irqs = rest.map (·.map Instr.checkout)) :
    t = s ∨ ∃ batch rest' u, (used ++ [batch]) ++ rest' = batches ∧ irqCalls (batch.map Instr.checkout) (enterIrq (rest'.map (·.map Instr.checkout)) s) = .ok u ∧
      t = leaveIrq u ∧ u.env.irqs <:+ rest'.map (·.map Instr.checkout) := by
  rcases preemptPoint_cases h with rfl | ⟨batch, others, u, _, _, hnext, hu, rfl⟩
  · exact .inl rfl
  · rw [hirqs] at hnext
    obtain ⟨b, rest', rfl, rfl, rfl⟩ := List.map_eq_cons_iff.mp hnext
    exact .inr ⟨b, rest', u, by rw [← hall]; simp, hu, rfl, (resRun_irqCalls hu).irqs⟩

/-- An irq checkout leaves the schedule. -/
theorem irqs_irqCalls {batch : List U32} {s t : State} (h : irqCalls (batch.map Instr.checkout) s = .ok t) : t.env.irqs = s.env.irqs := by
  induction batch generalizing s with
  | nil => cases h; rfl
  | cons len rest ih =>
    obtain ⟨u, hu, h⟩ := irqCalls_cons h
    rw [ih h]
    obtain ⟨⟨g, v⟩, hv, hu⟩ := bind_eq_ok hu
    cases hu
    have henv : v.env = s.env := by rw [checkoutWith_frame (still_noPreempt s) hv]
    show (putRet g.ret v).env.irqs = s.env.irqs
    rw [putRet_env, henv]

theorem chain_preemptPoint {batches : List (List U32)} {s t : State} (h : preemptPoint s = .ok t) (hs : Chain batches s) :
    Chain batches t ∧ Grants s t := by
  obtain ⟨used, rest, hall, htrace, hirqs⟩ := hs.trace
  rcases chain_arrivals h hall hirqs with rfl | ⟨batch, rest', u, hall', hu, rfl, _⟩
  · exact ⟨hs, .refl⟩
  have henter : NoGrant s (enterIrq (rest'.map (·.map Instr.checkout)) s) := ⟨rfl, rfl, fun _ => rfl⟩
  have hleave : NoGrant u (leaveIrq u) := ⟨rfl, rfl, fun _ => rfl⟩
  have hgrants : Grants s (leaveIrq u) := .head (.inl henter) ((grants_irqCalls hu).tail (.inl hleave))
  refine ⟨⟨hs.exact.grants hgrants, rfl, used ++ [batch], rest', hall', ?_, irqs_irqCalls hu⟩, hgrants⟩
  have := trace_irqCalls hu rfl (hs.exact.pointed.congr henter) (htrace.noGrant henter rfl)
  rw [List.flatten_append, List.flatten_singleton]
  exact this.noGrant hleave rfl

/-! ### Main's range -/

/-- A range from where a buffer is given out to is apart from every range given out. -/
theorem apart_of_within {i off len h l : Nat} {s : State} (hs : Pointed s) (hi : i < 2) (hgiven : given s i ≤ off)
    (hroom : off + len ≤ s.cfg.logBufCap) (hh : Within s h l) : Apart h l (i * s.cfg.logBufCap + off) len := by
  obtain ⟨k, o, hk, rfl, ho⟩ := hh
  by_cases hki : k = i
  · subst hki
    exact .inl (by omega)
  · exact apart_of_buffers hk hi hki (ho.trans (given_le hs k)) hroom

/-- The range is apart from every range the calls were granted. -/
def Beside (h l : Nat) (lens : List U32) (s : State) : Prop :=
  ∀ (n : Nat) (hn ln : U32), lens[n]? = some ln → s.env.irqRets[n]? = some (.word hn) → Apart h l hn.toNat ln.toNat

theorem Apart.symm {h l h' l' : Nat} (ha : Apart h l h' l') : Apart h' l' h l := Or.symm ha

theorem beside_irqCall {h l : Nat} {lens : List U32} {len : U32} {s t : State} (hc : irqCall (.checkout len) s = .ok t)
    (hctx : s.env.ctx = .irq) (hs : Pointed s) (hlen : s.env.irqRets.length = lens.length) (hw : Within s h l)
    (hb : Beside h l lens s) : Beside h l (lens ++ [len]) t := by
  obtain ⟨r, hrets, _, _, hnew⟩ := irqCall_checkout hc hctx hs
  intro n hn ln hl hret
  rw [hrets] at hret
  rcases getElem?_concat_cases hl with ⟨hlt, hl⟩ | ⟨heq, rfl⟩ <;> rcases getElem?_concat_cases hret with ⟨hlt', hret⟩ | ⟨heq', hret⟩
  · exact hb n hn ln hl hret
  · omega
  · omega
  · exact (hnew hn hret.symm).2 _ _ hw

/-- Where the range is held, it stays apart from a whole batch. -/
theorem beside_irqCalls {h l : Nat} {lens batch : List U32} {s t : State} (hc : irqCalls (batch.map Instr.checkout) s = .ok t)
    (hctx : s.env.ctx = .irq) (hs : Pointed s) (hlen : s.env.irqRets.length = lens.length) (hh : Held s h l) (hb : Beside h l lens s) :
    Beside h l (lens ++ batch) t := by
  induction batch generalizing lens s with
  | nil => cases hc; simpa using hb
  | cons len rest ih =>
    obtain ⟨u, hu, hc⟩ := irqCalls_cons hc
    obtain ⟨r, hrets, hctx', hkeeps, _⟩ := irqCall_checkout hu hctx hs
    have := ih hc hctx' (hs.atMostOne (atMostOne_irqCall hu).1) (lens := lens ++ [len]) (by rw [hrets]; simp [hlen]) (hkeeps _ _ hh)
      (beside_irqCall hu hctx hs hlen hh.within hb)
    simpa using this

/-- A batch of at most one call needs less: the range given out. -/
theorem beside_single {h l : Nat} {lens batch : List U32} {s t : State} (hc : irqCalls (batch.map Instr.checkout) s = .ok t)
    (hctx : s.env.ctx = .irq) (hs : Pointed s) (hlen : s.env.irqRets.length = lens.length) (hone : batch.length ≤ 1) (hw : Within s h l)
    (hb : Beside h l lens s) : Beside h l (lens ++ batch) t := by
  match batch, hone with
  | [], _ => cases hc; simpa using hb
  | [len], _ =>
    obtain ⟨u, hu, hc⟩ := irqCalls_cons hc
    cases hc
    exact beside_irqCall hu hctx hs hlen hw hb

/-- What main's checkout and the calls that preempted it have returned in the end: irq's grants are apart, and main's is apart from each
where R431 leaves no overlap open. -/
structure Resolved (batches : List (List U32)) (len : Nat) (g : Grant) (t : State) : Prop where
  used : ∃ used rest, used ++ rest = batches ∧ t.env.irqRets.length = used.flatten.length ∧
    (∀ (m n : Nat) (hm hn lm ln : U32), m < n → used.flatten[m]? = some lm → used.flatten[n]? = some ln →
      t.env.irqRets[m]? = some (.word hm) → t.env.irqRets[n]? = some (.word hn) → Apart hm.toNat lm.toNat hn.toNat ln.toNat) ∧
    ∀ h, g = .handle h →
      h.toNat % t.cfg.logBufCap ≠ 0 ∨ t.env.irqRets.length ≤ 1 ∨ (∀ b ∈ batches, b.length ≤ 1) → Beside h.toNat len used.flatten t

/-- A refused checkout. -/
theorem Chain.resolved {batches : List (List U32)} {len : Nat} {e : Err} {t : State} (h : Chain batches t) :
    Resolved batches len (.refused e) t := by
  obtain ⟨used, rest, hall, htrace, _⟩ := h.trace
  exact ⟨used, rest, hall, htrace.length, htrace.apart, fun _ hg => nomatch hg⟩

/-- Steps 3 and 4: the bytes main takes are apart from those granted before, and from those granted between the two steps where they are
held, or where one call arrives at most. -/
theorem resolved_grant {batches : List (List U32)} {i off len : Nat} {s t : State} (hs : Chain batches s) (hpoints : pointsIn s i)
    (hoff : ipOff s.sh.ip = off) (hi : i < 2) (hlen : len ≠ 0) (hroom : off + len ≤ s.cfg.logBufCap)
    (hstep4 : preemptPoint (storeIp (mkIp true i (off + len)) s) = .ok t) :
    Resolved batches len (.handle (handleOf t.cfg.logBufCap i off)) (addCount i (BitVec.ofNat 32 len) t) := by
  have hp := hs.exact.pointed
  have hcap := logBufCap_of_wf hp.params
  have hcount : counted s i = off := by rw [← hpoints.2, hs.exact.count hpoints.1, hoff]
  obtain ⟨used, rest, hall, htrace, hirqs⟩ := hs.trace
  generalize hu : storeIp (mkIp true i (off + len)) s = u at hstep4
  have hucfg : u.cfg = s.cfg := by rw [← hu]; rfl
  have huenv : u.env = s.env := by rw [← hu]; rfl
  have hucount : ∀ k, counted u k = counted s k := by intro k; rw [← hu]; rfl
  obtain ⟨hrange, hvalid, hidx, hoffu⟩ := ipInRange_mkIp (s := u) (off := off + len) (hucfg ▸ hp.params) hi (by rw [hucfg]; exact hroom) (by rw [← hu]; rfl)
  have hpu : Pointed u := ⟨hucfg ▸ hp.params, hrange, fun _ => by rw [hidx, hoffu, hucount, hcount]; omega⟩
  have hgivenu : given u i = off + len := by rw [given_pointsIn ⟨hvalid, hidx⟩, hoffu]
  -- what was held is held still
  have hheld : ∀ h l, Held s h l → Held u h l := by
    rintro h l ⟨k, o, hk, rfl, ho, hne⟩
    refine ⟨k, o, hk, by rw [hucfg], ?_, by rw [hucount]; exact hne⟩
    by_cases hki : k = i
    · subst hki
      rw [given_pointsIn hpoints, hoff] at ho
      omega
    · rw [given_elsewhere (fun hpu => hki (hpu.2.symm.trans hidx)), if_neg (by rw [hucount]; exact hne), hucfg]
      exact ho.trans (given_le hp k)
  have htraceu : Trace used.flatten u :=
    ⟨by rw [huenv]; exact htrace.length, fun n h l hl hr => hheld _ _ (htrace.held n h l hl (huenv ▸ hr)), by rw [huenv]; exact htrace.apart⟩
  have hbesideu : Beside (i * s.cfg.logBufCap + off) len used.flatten u := fun n hn ln hl hr =>
    (apart_of_within hp hi (by rw [given_pointsIn hpoints, hoff]) hroom (htrace.held n hn ln hl (huenv ▸ hr)).within).symm
  have hwithin : Within u (i * s.cfg.logBufCap + off) len := ⟨i, off, hi, by rw [hucfg], Nat.le_of_eq hgivenu.symm⟩
  have hholds : off ≠ 0 → Held u (i * s.cfg.logBufCap + off) len := fun hne =>
    ⟨i, off, hi, by rw [hucfg], Nat.le_of_eq hgivenu.symm, by rw [hucount, hcount]; exact hne⟩
  have htcfg : t.cfg = s.cfg := (hookRuns_preemptPoint hstep4).cfg.trans hucfg
  have hhandle : (handleOf t.cfg.logBufCap i off).toNat = i * s.cfg.logBufCap + off := by
    rw [htcfg]; exact handleOf_toNat (by omega) hi (by omega)
  have hmod : (i * s.cfg.logBufCap + off) % s.cfg.logBufCap = off := by
    rw [Nat.mul_comm, Nat.mul_add_mod, Nat.mod_eq_of_lt (by omega)]
  rcases chain_arrivals hstep4 hall (huenv ▸ hirqs) with rfl | ⟨batch, rest', v, hall', hv, rfl, _⟩
  · refine ⟨used, rest, hall, htraceu.length, htraceu.apart, fun h hg _ => ?_⟩
    cases hg
    rw [hhandle]
    exact hbesideu
  have henter : NoGrant u (enterIrq (rest'.map (·.map Instr.checkout)) u) := ⟨rfl, rfl, fun _ => rfl⟩
  have hpe := hpu.congr henter
  have hfinal := trace_irqCalls hv rfl hpe (htraceu.noGrant henter rfl)
  have hflat : (used ++ [batch]).flatten = used.flatten ++ batch := by simp
  refine ⟨used ++ [batch], rest', hall', by rw [hflat]; exact hfinal.length, by rw [hflat]; exact hfinal.apart, fun h hg hcase => ?_⟩
  cases hg
  rw [hhandle, hflat]
  rw [hhandle] at hcase
  have hcase : off ≠ 0 ∨ batch.length ≤ 1 := by
    rcases hcase with hne | hone | hone
    · rw [show (addCount i (BitVec.ofNat 32 len) (leaveIrq v)).cfg = s.cfg from htcfg, hmod] at hne
      exact .inl hne
    · have hlength : v.env.irqRets.length = used.flatten.length + batch.length := by rw [hfinal.length, List.length_append]
      have hone : v.env.irqRets.length ≤ 1 := hone
      exact .inr (by omega)
    · exact .inr (hone batch (by rw [← hall']; simp))
  rcases hcase with hne | hone
  · exact beside_irqCalls (t := v) hv rfl hpe htraceu.length ((hholds hne).noGrant henter) hbesideu
  · exact beside_single (t := v) hv rfl hpe htraceu.length hone hwithin hbesideu

/-! ### Main's loop -/

theorem chain_firstEmpty {batches : List (List U32)} {ks : List Nat} {s t : State} {o : Option Nat}
    (h : firstEmpty preemptPoint ks s = .ok (o, t)) (hs : Chain batches s) :
    Chain batches t ∧ Grants s t ∧ ∀ j, o = some j → counted t j = 0 := by
  induction ks generalizing s with
  | nil => cases h; exact ⟨hs, .refl, nofun⟩
  | cons k rest ih =>
    obtain ⟨s1, hs1, ⟨hempty, rfl, rfl⟩ | ⟨_, hrest⟩⟩ := firstEmpty_cons h
    · obtain ⟨h1, hg1⟩ := chain_preemptPoint hs1 hs
      refine ⟨h1, hg1, fun j hj => ?_⟩
      cases hj
      rw [counted, hempty]
      rfl
    · obtain ⟨h1, hg1⟩ := chain_preemptPoint hs1 hs
      obtain ⟨ht, hg, hempty⟩ := ih hrest h1
      exact ⟨ht, hg1.trans hg, hempty⟩

theorem chain_vacate {batches : List (List U32)} {v : Bool} {i : Nat} {s t : State} (h : vacate preemptPoint v i s = .ok t)
    (hs : Chain batches s) : Chain batches t := by
  rcases vacate_cases h with ⟨_, rfl⟩ | ⟨_, s1, hs1, ⟨_, rfl⟩ | ⟨_, s2, hs2, rfl⟩⟩
  · exact hs
  · exact (chain_preemptPoint hs1 hs).1
  · exact (chain_preemptPoint hs2 (chain_preemptPoint hs1 hs).1).1.noGrant (noGrant_storePending _ _ s2) rfl

/-- The insertion point goes to the start of a buffer that counts nothing. -/
theorem Chain.switch {batches : List (List U32)} {j : Nat} {s : State} (hs : Chain batches s) (hj : j < 2) (hempty : counted s j = 0) :
    Chain batches (storeIp (mkIp true j 0) s) := by
  have hp := hs.exact.pointed
  generalize hu : storeIp (mkIp true j 0) s = u
  have hucfg : u.cfg = s.cfg := by rw [← hu]; rfl
  have huenv : u.env = s.env := by rw [← hu]; rfl
  have hucount : ∀ k, counted u k = counted s k := by intro k; rw [← hu]; rfl
  obtain ⟨hrange, hvalid, hidx, hoff⟩ := ipInRange_mkIp (s := u) (hucfg ▸ hp.params) hj (Nat.zero_le _) (by rw [← hu]; rfl)
  have hcount : counted u (ipIdx u.sh.ip) = ipOff u.sh.ip := by rw [hidx, hoff, hucount, hempty]
  obtain ⟨used, rest, hall, htrace, hirqs⟩ := hs.trace
  refine ⟨⟨⟨hucfg ▸ hp.params, hrange, fun _ => Nat.le_of_eq hcount⟩, fun _ => hcount⟩, by rw [huenv]; exact hs.ctx, used, rest, hall,
    ⟨by rw [huenv]; exact htrace.length, fun n h l hl hr => ?_, by rw [huenv]; exact htrace.apart⟩, by rw [huenv]; exact hirqs⟩
  obtain ⟨k, o, hk, e, ho, hne⟩ := htrace.held n h l hl (huenv ▸ hr)
  have hkj : k ≠ j := fun e => hne (e ▸ hempty)
  refine ⟨k, o, hk, by rw [hucfg]; exact e, ?_, by rw [hucount]; exact hne⟩
  rw [given_elsewhere (fun hpu => hkj (hpu.2.symm.trans hidx)), if_neg (by rw [hucount]; exact hne), hucfg]
  exact ho.trans (given_le hp k)

theorem resolved_checkoutRuns {batches : List (List U32)} {len : Nat} {old : U32} {s t : State} {g : Grant}
    (h : CheckoutRuns preemptPoint len old s g t) (hlen : len ≠ 0) (hs : Chain batches s)
    (hold : Passed old s) : Resolved batches len g t := by
  induction h with
  | @granted old s s1 s2 s3 hwf hroom hstep2 hstep3 hsame hstep4 =>
    have h1 := (chain_preemptPoint hstep2 hs).1.noGrant (noGrant_addCheckout (ipIdx old) s1) rfl
    have h2 := (chain_preemptPoint hstep3 h1).1
    have hcfg : s2.cfg = s.cfg := (hookRuns_preemptPoint hstep3).cfg.trans (hookRuns_preemptPoint hstep2).cfg
    simp only [hasRoom, Bool.and_eq_true, decide_eq_true_eq, ← hcfg] at hroom
    exact resolved_grant h2 ⟨hsame ▸ hroom.1, by rw [hsame]⟩ (by rw [hsame]) (ipIdx_lt hwf) hlen hroom.2 hstep4
  | @lost old s s1 s2 s3 t g hwf hroom hstep2 hstep3 hother hstep5 rest ih =>
    have h1 := (chain_preemptPoint hstep2 hs).1.noGrant (noGrant_addCheckout (ipIdx old) s1) rfl
    have h2 := (chain_preemptPoint hstep3 h1).1
    obtain ⟨h3, hg⟩ := chain_preemptPoint hstep5 h2
    have hsub := noGrant_subCheckout (ipIdx old) s3
    exact ih (h3.noGrant hsub rfl)
      ((h2.exact.passed.grants (ipInRange_fields h2.exact.pointed.range).1 h2.exact hg).noGrant hsub)
  | @full old s s1 s2 hwf hroom hstep6 hstep7 =>
    exact ((chain_preemptPoint hstep7 (chain_firstEmpty hstep6 hs).1).1.noGrant (noGrant_addMissed s2) rfl).resolved
  | @switched old s s1 s2 s3 t g j hwf hroom hstep6 hstep8 hsame hstep9 rest ih =>
    obtain ⟨h1, hg1, hempty⟩ := chain_firstEmpty hstep6 hs
    obtain ⟨h2, hg2⟩ := chain_preemptPoint hstep8 h1
    have hnone := noGrant_of_same hwf h1.exact (hold.grants hwf hs.exact hg1) hg2 hsame
    have hj := candidates_lt (ipIdx_lt hwf) (firstEmpty_mem hstep6)
    have h3 := chain_vacate hstep9 (h2.switch hj (by rw [counted_noGrant hnone]; exact hempty j rfl))
    refine ih h3 fun _ => ?_
    rw [(mkIp_fields j 0 hj (by decide)).2.2.2]
    exact Nat.zero_le _
  | @raced old s s1 s2 t g j hwf hroom hstep6 hstep8 hother rest ih =>
    have h2 := (chain_preemptPoint hstep8 (chain_firstEmpty hstep6 hs).1).1
    exact ih h2 h2.exact.passed

/-- The calls that have arrived are the first of the schedule. -/
theorem getElem?_flatten_used {batches used rest : List (List U32)} {n : Nat} {l : U32} (hall : used ++ rest = batches)
    (hn : n < used.flatten.length) (hl : batches.flatten[n]? = some l) : used.flatten[n]? = some l := by
  rw [← hall, List.flatten_append, List.getElem?_append_left hn] at hl
  exact hl

/-- Settles O18: what is granted lies in one buffer; irq's ranges are apart as each starts where its buffer is given out to; main's is
given out at step 3, and held from then on if its buffer counts bytes. -/
theorem concurrentGrants : Obligations.ConcurrentGrants := by
  unfold Obligations.ConcurrentGrants
  refine ⟨fun s t len h hp hctx hexec hret => ?_, fun s t len batches hp hrange hat hctx hrets hirqs hexec => ?_⟩
  · obtain ⟨u, hu, _⟩ := checkout_granted hctx hexec hret
    obtain ⟨_, i, off, hi, hh, hoff⟩ := checkoutWith_within hookRuns_preemptPoint hu hp
    exact ⟨i, off, hi, hh, hoff⟩
  have hs : Chain batches s := by
    refine ⟨⟨pointed_of_atCount hp hrange hat, fun hvalid => ?_⟩, hctx, [], batches, rfl, Trace.nil hrets, hirqs⟩
    simpa [ipAtCount, hvalid, counted] using hat
  obtain ⟨g, u, hu, rfl⟩ := exec_checkout_cases hexec
  have hucfg := (resRun_checkoutWith hookRuns_preemptPoint hu).cfg
  have huctx : u.env.ctx = .main := (resRun_ctx (resRun_checkoutWith hookRuns_preemptPoint hu)).trans hctx
  have hresolved : Resolved batches len.toNat g u := by
    rcases checkoutWith_cases hu with ⟨_, rfl, rfl⟩ | ⟨hlen, _, s1, hs1, hrun⟩
    · exact hs.resolved
    · have h1 := (chain_preemptPoint hs1 hs).1
      exact resolved_checkoutRuns hrun hlen h1 h1.exact.passed
  have hrets' : (putRet g.ret u).env.irqRets = u.env.irqRets ∧ (putRet g.ret u).env.ret = g.ret := by
    unfold putRet
    simp [State.onEnv, huctx]
  rw [hrets'.1, hrets'.2]
  obtain ⟨used, rest, hall, hlength, hapart, hmain⟩ := hresolved.used
  have hlt : ∀ {n : Nat} {r : Ret}, u.env.irqRets[n]? = some r → n < used.flatten.length := fun h => by
    rw [← hlength]
    exact (List.getElem?_eq_some_iff.mp h).1
  refine ⟨fun m n hm hn lm ln hmn hlm hln hwm hwn => ?_, fun n h hn ln hret hln hwn hcase => ?_⟩
  · exact hapart m n hm hn lm ln hmn (getElem?_flatten_used hall (hlt hwm) hlm) (getElem?_flatten_used hall (hlt hwn) hln) hwm hwn
  · cases g with
    | refused e => cases hret
    | handle w =>
      cases hret
      refine hmain _ rfl ?_ n hn ln (getElem?_flatten_used hall (hlt hwn) hln) hwn
      rw [hucfg]
      refine hcase.imp_right (Or.imp_right fun hone b hb => ?_)
      rw [oneGrantPerStep, hirqs, List.all_eq_true] at hone
      have := of_decide_eq_true (hone _ (List.mem_map_of_mem hb))
      rwa [List.filter_eq_self.mpr (by simp [reserves]), List.length_map] at this

end Sys2Proof.Machine
end

section
/-! The command/CRC layer's values (40_crc_command.md R200-R206, 41_card_init.md R249, R250). -/

namespace Sys2Proof.Machine

/-! ### CRC-16 is linear, and loses nothing -/

theorem crc16Shift_of_top {c : U16} (h : c.getLsbD 15 = true) : crc16Shift c = (c <<< 1) ^^^ 0x1021#16 := by
  rw [crc16Shift, if_pos h]

theorem crc16Shift_of_no_top {c : U16} (h : c.getLsbD 15 = false) : crc16Shift c = c <<< 1 := by
  rw [crc16Shift, h, if_neg Bool.false_ne_true]

/-- The shift is linear over xor. -/
theorem crc16Shift_xor (a b : U16) : crc16Shift (a ^^^ b) = crc16Shift a ^^^ crc16Shift b := by
  unfold crc16Shift
  rw [BitVec.getLsbD_xor, BitVec.shiftLeft_xor_distrib]
  cases a.getLsbD 15 <;> cases b.getLsbD 15
  · rfl
  · simp only [Bool.false_xor, if_true, Bool.false_eq_true, if_false]; ac_rfl
  · simp only [Bool.xor_false, if_true, Bool.false_eq_true, if_false]; ac_rfl
  · simp only [Bool.xor_self, if_true, Bool.false_eq_true, if_false]
    rw [show (a <<< 1 ^^^ 0x1021#16) ^^^ (b <<< 1 ^^^ 0x1021#16) = (a <<< 1 ^^^ b <<< 1) ^^^ (0x1021#16 ^^^ 0x1021#16) by ac_rfl,
      BitVec.xor_self, BitVec.xor_zero]

/-- Only 0 is shifted to 0: the polynomial's lowest bit is set. -/
theorem crc16Shift_eq_zero {c : U16} : crc16Shift c = 0 ↔ c = 0 := by
  refine ⟨fun h => ?_, fun h => by rw [h]; decide⟩
  have hbit : ∀ i, (crc16Shift c).getLsbD i = false := fun i => by rw [h]; simp
  cases htop : c.getLsbD 15 with
  | true =>
    have := hbit 0
    rw [crc16Shift_of_top htop, BitVec.getLsbD_xor, BitVec.getLsbD_shiftLeft] at this
    simp at this
  | false =>
    apply BitVec.eq_of_getLsbD_eq
    intro i hi
    rcases Nat.lt_or_ge i 15 with hlow | hhigh
    · have := hbit (i + 1)
      rw [crc16Shift_of_no_top htop, BitVec.getLsbD_shiftLeft] at this
      simpa [hlow, show i + 1 < 16 by omega] using this
    · obtain rfl : i = 15 := by omega
      simpa using htop

theorem crc16Shift_iterate_xor (n : Nat) (a b : U16) :
    crc16Shift^[n] (a ^^^ b) = crc16Shift^[n] a ^^^ crc16Shift^[n] b := by
  induction n generalizing a b with
  | zero => rfl
  | succ n ih => rw [Function.iterate_succ_apply, Function.iterate_succ_apply, Function.iterate_succ_apply, crc16Shift_xor, ih]

theorem crc16Shift_iterate_eq_zero (n : Nat) {c : U16} : crc16Shift^[n] c = 0 ↔ c = 0 := by
  induction n generalizing c with
  | zero => rfl
  | succ n ih => rw [Function.iterate_succ_apply, ih, crc16Shift_eq_zero]

/-- While no bit reaches the top the register is only shifted. -/
theorem crc16Shift_iterate_low {n : Nat} (hn : n ≤ 8) (x : Byte) : crc16Shift^[n] ((0#8) ++ x) = ((0#8) ++ x) <<< n := by
  induction n with
  | zero => simp
  | succ n ih =>
    have htop : (((0#8) ++ x) <<< n).getLsbD 15 = false := by
      rw [BitVec.getLsbD_shiftLeft, BitVec.getLsbD_append]
      simp [show ¬ 15 - n < 8 by omega]
    rw [Function.iterate_succ_apply', ih (by omega), crc16Shift_of_no_top htop, BitVec.shiftLeft_add]

theorem crc16UpdateByte_eq (c : U16) (b : Byte) : crc16UpdateByte c b = crc16Shift^[8] (c ^^^ (b ++ (0#8))) := rfl

theorem shiftLeft_eight_append (x : Byte) : ((0#8) ++ x) <<< 8 = x ++ (0#8) := by
  apply BitVec.eq_of_getLsbD_eq
  intro i hi
  rw [BitVec.getLsbD_shiftLeft, BitVec.getLsbD_append, BitVec.getLsbD_append]
  by_cases h : i < 8
  · simp [h]
  · simp [h, hi, show i - 8 < 8 by omega]

/-- A half word is its two bytes. -/
theorem eq_xor_bytes (c : U16) : c = (c.extractLsb' 8 8 ++ (0#8)) ^^^ ((0#8) ++ c.extractLsb' 0 8) := by
  apply BitVec.eq_of_getLsbD_eq
  intro i hi
  rw [BitVec.getLsbD_xor, BitVec.getLsbD_append, BitVec.getLsbD_append, BitVec.getLsbD_extractLsb', BitVec.getLsbD_extractLsb']
  by_cases h : i < 8
  · simp [h]
  · simp [h, show i - 8 < 8 by omega, show 8 + (i - 8) = i by omega]

/-- The high byte alone meets the polynomial; the low byte is shifted up (R203's table form). -/
theorem crc16UpdateByte_table (c : U16) (b : Byte) :
    crc16UpdateByte c b = (c <<< 8) ^^^ crc16UpdateByte 0 (c.extractLsb' 8 8 ^^^ b) := by
  have hsplit : c ^^^ (b ++ (0#8)) = ((0#8) ++ c.extractLsb' 0 8) ^^^ ((c.extractLsb' 8 8 ^^^ b) ++ (0#8)) := by
    apply BitVec.eq_of_getLsbD_eq
    intro i hi
    rw [BitVec.getLsbD_xor, BitVec.getLsbD_xor, BitVec.getLsbD_append, BitVec.getLsbD_append, BitVec.getLsbD_append,
      BitVec.getLsbD_xor, BitVec.getLsbD_extractLsb', BitVec.getLsbD_extractLsb']
    by_cases h : i < 8
    · simp [h]
    · simp [h, show i - 8 < 8 by omega, show 8 + (i - 8) = i by omega]
  have hshift : c <<< 8 = ((0#8) ++ c.extractLsb' 0 8) <<< 8 := by
    apply BitVec.eq_of_getLsbD_eq
    intro i hi
    rw [BitVec.getLsbD_shiftLeft, BitVec.getLsbD_shiftLeft, BitVec.getLsbD_append, BitVec.getLsbD_extractLsb']
    simp [show i - 8 < 8 by omega]
  have hzero : (0 : U16) ^^^ ((c.extractLsb' 8 8 ^^^ b) ++ (0#8)) = (c.extractLsb' 8 8 ^^^ b) ++ (0#8) := BitVec.zero_xor
  rw [crc16UpdateByte_eq, crc16UpdateByte_eq, hsplit, crc16Shift_iterate_xor, crc16Shift_iterate_low (Nat.le_refl 8), hshift, hzero]

/-- The remainder after a payload and a value behind it is 0 only for the payload's own (R286). -/
theorem crc16Bytes_append_be16 (payload : List Byte) (crc : U16) :
    crc16Bytes (payload ++ be16Bytes crc) = 0 ↔ crc = crc16Bytes payload := by
  generalize hr : crc16Bytes payload = r
  have hfold : crc16Bytes (payload ++ be16Bytes crc) = crc16UpdateByte (crc16UpdateByte r (byteOf crc 1)) (byteOf crc 0) := by
    rw [crc16Bytes, List.foldl_append, ← crc16Bytes, hr]
    rfl
  have hlow : byteOf crc 0 ++ (0#8) = crc16Shift^[8] ((0#8) ++ byteOf crc 0) := by
    rw [crc16Shift_iterate_low (Nat.le_refl 8), shiftLeft_eight_append]
  have hbytes : r ^^^ (byteOf crc 1 ++ (0#8)) ^^^ ((0#8) ++ byteOf crc 0) = r ^^^ crc := by
    conv_rhs => rw [eq_xor_bytes crc]
    rw [BitVec.xor_assoc]
    rfl
  rw [hfold, crc16UpdateByte_eq, crc16UpdateByte_eq, hlow, ← crc16Shift_iterate_xor, hbytes, crc16Shift_iterate_eq_zero,
    crc16Shift_iterate_eq_zero]
  exact BitVec.xor_eq_zero_iff.trans eq_comm

/-! ### What the operations return -/

theorem exec_crc7 (data : HostAddr) (len : U32) {s : State} (h : hostReadable s data len.toNat = true) :
    exec (.crc7 data len) s = .next (putRet (.byte ((0#1) ++ crc7Bytes (s.peekList .host data.toNat len.toNat))) s) :=
  hostQuery_readable s data len.toNat _ h

theorem exec_crc16 (data : HostAddr) (len : U32) {s : State} (h : hostReadable s data len.toNat = true) :
    exec (.crc16 data len) s = .next (putRet (.half (crc16Bytes (s.peekList .host data.toNat len.toNat))) s) :=
  hostQuery_readable s data len.toNat _ h

theorem exec_crc16Update (crc : U16) (byte : Byte) (s : State) :
    exec (.crc16Update crc byte) s = .next (putRet (.half (crc16UpdateByte crc byte)) s) := rfl

/-- The first byte of a frame: the transmission bits over the index (R130). -/
theorem frameHead_first (idx : BitVec 6) : (0x1#2) ++ idx = 0x40#8 ||| idx.setWidth 8 := by
  revert idx
  decide

/-- The last byte of a frame: the CRC over the end bit (R130). -/
theorem frame_last (crc : BitVec 7) : crc ++ (1#1) = crc.setWidth 8 <<< 1 ||| 1 := by
  apply BitVec.eq_of_getLsbD_eq
  intro i hi
  rw [BitVec.getLsbD_append, BitVec.getLsbD_or, BitVec.getLsbD_shiftLeft, BitVec.getLsbD_setWidth]
  rcases Nat.eq_zero_or_pos i with rfl | hpos
  · simp
  · simp [show ¬ i < 1 by omega, show i ≠ 0 by omega, hi, show i - 1 < 8 by omega]

/-- Settles O7: the CRCs fold over the bytes read; R203's table form and R286's residue are CRC-16's linearity. -/
theorem commandLayerValues : Obligations.CommandLayerValues := by
  refine ⟨fun s data len h => ?_, fun s data len h => ?_, fun s crc byte => ?_, fun s i entry hrow => ?_, crc16Bytes_append_be16,
    fun s index argument => ?_⟩
  · rw [exec_crc7 data len h, peekList_eq_map]
    rfl
  · rw [exec_crc16 data len h, peekList_eq_map]
    rfl
  · rw [exec_crc16Update, crc16UpdateByte_table]
  · rw [exec_crc16Update]
    have : entry = crc16UpdateByte 0 (BitVec.ofNat 8 i) :=
      value_eq_of_mem_table (f := fun i => crc16UpdateByte 0 (BitVec.ofNat 8 i)) hrow (by decide)
    rw [this]
  · have hframe : buildCommandBytes (index.extractLsb' 0 6) argument =
        frameHead (index.extractLsb' 0 6) argument ++ [crc7Bytes (frameHead (index.extractLsb' 0 6) argument) ++ (1#1)] := rfl
    have hhead : frameHead (index.extractLsb' 0 6) argument = [0x40#8 ||| (index.extractLsb' 0 6).setWidth 8,
        argument.extractLsb' 24 8, argument.extractLsb' 16 8, argument.extractLsb' 8 8, argument.extractLsb' 0 8] := by
      rw [← frameHead_first]
      rfl
    rw [exec_buildCommand, execBuildCommand, hframe, hhead, frame_last]
    rfl

/-! ### `parse_response` -/

/-- The scan finds position `k` of the bytes where it is the first with its high bit 0. -/
theorem findResponse_eq_some {bytes : List Byte} {k : Nat} (hk : k < bytes.length) (hfirst : isResponse bytes[k] = true)
    (hbefore : ∀ (j : Nat) (hj : j < k), isResponse (bytes[j]'(by omega)) = false) (n : Nat) :
    findResponse n bytes = some (n + k) := by
  induction bytes generalizing k n with
  | nil => exact absurd hk (Nat.not_lt_zero _)
  | cons b rest ih =>
    unfold findResponse
    cases k with
    | zero =>
      have hfirst : isResponse b = true := hfirst
      rw [if_pos hfirst]
      rfl
    | succ k =>
      have hb : isResponse b = false := hbefore 0 (Nat.succ_pos k)
      rw [hb, if_neg Bool.false_ne_true, ih (by simpa using hk) hfirst (fun j hj => hbefore (j + 1) (by omega))]
      congr 1
      omega

theorem findResponse_eq_none {bytes : List Byte} (h : ∀ (j : Nat) (hj : j < bytes.length), isResponse bytes[j] = false) (n : Nat) :
    findResponse n bytes = none := by
  induction bytes generalizing n with
  | nil => rfl
  | cons b rest ih =>
    unfold findResponse
    have hb : isResponse b = false := h 0 (Nat.succ_pos _)
    rw [hb, if_neg Bool.false_ne_true, ih (fun j hj => h (j + 1) (by simpa using hj))]

theorem getElem_peekList {s : State} {sp : Space} {a n k : Nat} (h : k < n) :
    (s.peekList sp a n)[k]'(by rw [State.length_peekList]; exact h) = s.peek sp (a + k) := Memory.getElem_readList _ _ _ _ h

/-- Settles O8: the scan stops at the first byte with its high bit 0. -/
theorem parseResponseFindsFirst : Obligations.ParseResponseFindsFirst := by
  intro s window len expectedLen h
  have hexec : exec (.parseResponse window len expectedLen) s =
      .next (putRet (parseResponseOf (s.peekList .host window.toNat len.toNat) expectedLen) s) := hostQuery_readable s window len.toNat _ h
  rw [hexec]
  refine ⟨fun k hk hfirst hbefore => ?_, fun hnone => ?_⟩
  · have hfind : findResponse 0 (s.peekList .host window.toNat len.toNat) = some (0 + k) := by
      refine findResponse_eq_some (by rw [State.length_peekList]; exact hk) ?_ (fun j hj => ?_) 0
      · rw [getElem_peekList hk, isResponse, hfirst]; rfl
      · rw [getElem_peekList (by omega), isResponse, hbefore j hj]; rfl
    rw [parseResponseOf, hfind, Nat.zero_add, State.length_peekList]
  · have hfind : findResponse 0 (s.peekList .host window.toNat len.toNat) = none := by
      refine findResponse_eq_none (fun j hj => ?_) 0
      rw [State.length_peekList] at hj
      rw [getElem_peekList hj, isResponse, hnone j hj]; rfl
    rw [parseResponseOf, hfind]

end Sys2Proof.Machine
end

section
/-! The capacity of a CSD (41_card_init.md R139, R249, R250): a CSD read as one number, its fields as bits of its bytes. -/

namespace Sys2Proof.Machine

/-! ### Bits of a byte sequence read as one number -/

theorem beNat_concat (bs : List Byte) (b : Byte) : beNat (bs ++ [b]) = beNat bs * 256 + b.toNat := by
  simp [beNat]

/-- Bytes behind a sequence shift its number up. -/
theorem beNat_append (as bs : List Byte) : beNat (as ++ bs) = beNat as * 2 ^ (8 * bs.length) + beNat bs := by
  induction bs using List.reverseRecOn with
  | nil => simp [beNat]
  | append_singleton bs b ih =>
    rw [← List.append_assoc, beNat_concat, ih, beNat_concat, List.length_append, List.length_singleton, Nat.mul_add 8, Nat.pow_add]
    ring

theorem beNat_lt (bs : List Byte) : beNat bs < 2 ^ (8 * bs.length) := by
  induction bs using List.reverseRecOn with
  | nil => decide
  | append_singleton bs b ih =>
    have hb := b.isLt
    rw [beNat_concat, List.length_append, List.length_singleton, Nat.mul_add 8, Nat.pow_add]
    omega

/-- A field within some bytes is a field of those bytes alone. -/
theorem bitsOfNat_beNat (pre mid post : List Byte) {lo n : Nat} (h : lo + n ≤ 8 * mid.length) :
    bitsOfNat (beNat (pre ++ mid ++ post)) (8 * post.length + lo) n = bitsOfNat (beNat mid) lo n := by
  obtain ⟨k, hk⟩ := Nat.exists_eq_add_of_le h
  have hpost := beNat_lt post
  have hhigh : beNat pre * 2 ^ (8 * mid.length) = 2 ^ lo * (2 ^ n * (2 ^ k * beNat pre)) := by
    rw [hk, Nat.pow_add, Nat.pow_add]
    ring
  unfold bitsOfNat
  rw [beNat_append, beNat_append, Nat.pow_add, ← Nat.div_div_eq_div_mul, Nat.mul_comm _ (2 ^ (8 * post.length)),
    Nat.mul_add_div (Nat.two_pow_pos _), Nat.div_eq_of_lt hpost, Nat.add_zero, hhigh, Nat.mul_add_div (Nat.two_pow_pos _),
    Nat.mul_add_mod]

theorem toNat_extract (x : Byte) (lo n : Nat) : (x.extractLsb' lo n).toNat = x.toNat / 2 ^ lo % 2 ^ n := by
  rw [BitVec.extractLsb'_toNat, Nat.shiftRight_eq_div_pow]

/-! ### The fields of a CSD (R139) -/

/-- The sixteen bytes of a CSD. -/
def csdBytes (b : Nat → Byte) : List Byte := (List.range 16).map b

theorem csd_structure (b : Nat → Byte) : bitsOfNat (beNat (csdBytes b)) 126 2 = ((b 0).extractLsb' 6 2).toNat := by
  have := bitsOfNat_beNat [] [b 0] [b 1, b 2, b 3, b 4, b 5, b 6, b 7, b 8, b 9, b 10, b 11, b 12, b 13, b 14, b 15] (lo := 6) (n := 2) (by simp)
  rw [toNat_extract]
  refine this.trans ?_
  simp [bitsOfNat, beNat]

theorem csd_readBlLen (b : Nat → Byte) : bitsOfNat (beNat (csdBytes b)) 80 4 = ((b 5).extractLsb' 0 4).toNat := by
  have := bitsOfNat_beNat [b 0, b 1, b 2, b 3, b 4] [b 5] [b 6, b 7, b 8, b 9, b 10, b 11, b 12, b 13, b 14, b 15] (lo := 0) (n := 4) (by simp)
  rw [toNat_extract]
  refine this.trans ?_
  simp [bitsOfNat, beNat]

theorem csd_cSize (b : Nat → Byte) :
    bitsOfNat (beNat (csdBytes b)) 62 12 = ((b 6).extractLsb' 0 2 ++ b 7 ++ (b 8).extractLsb' 6 2).toNat := by
  have := bitsOfNat_beNat [b 0, b 1, b 2, b 3, b 4, b 5] [b 6, b 7, b 8] [b 9, b 10, b 11, b 12, b 13, b 14, b 15] (lo := 6) (n := 12) (by simp)
  have h7 := (b 7).isLt
  have h8 := (b 8).isLt
  rw [toNat_append_eq, toNat_append_eq, toNat_extract, toNat_extract]
  refine this.trans ?_
  simp only [bitsOfNat, beNat, List.foldl_cons, List.foldl_nil]
  omega

theorem csd_cSizeMult (b : Nat → Byte) :
    bitsOfNat (beNat (csdBytes b)) 47 3 = ((b 9).extractLsb' 0 2 ++ (b 10).extractLsb' 7 1).toNat := by
  have := bitsOfNat_beNat [b 0, b 1, b 2, b 3, b 4, b 5, b 6, b 7, b 8] [b 9, b 10] [b 11, b 12, b 13, b 14, b 15] (lo := 7) (n := 3) (by simp)
  have h10 := (b 10).isLt
  rw [toNat_append_eq, toNat_extract, toNat_extract]
  refine this.trans ?_
  simp only [bitsOfNat, beNat, List.foldl_cons, List.foldl_nil]
  omega

theorem csd_cSizeLong (b : Nat → Byte) :
    bitsOfNat (beNat (csdBytes b)) 48 22 = ((b 7).extractLsb' 0 6 ++ b 8 ++ b 9).toNat := by
  have := bitsOfNat_beNat [b 0, b 1, b 2, b 3, b 4, b 5, b 6] [b 7, b 8, b 9] [b 10, b 11, b 12, b 13, b 14, b 15] (lo := 0) (n := 22) (by simp)
  have h8 := (b 8).isLt
  have h9 := (b 9).isLt
  rw [toNat_append_eq, toNat_append_eq, toNat_extract]
  refine this.trans ?_
  simp only [bitsOfNat, beNat, List.foldl_cons, List.foldl_nil]
  omega

/-! ### The capacity -/

theorem exec_csdCapacity {s : State} {csd : HostAddr} (h : hostReadable s csd 16 = true) :
    exec (.csdCapacity csd) s = .next (putRet (capacityRet (csdCapacityOf (csdBytes fun k => s.peek .host (csd.toNat + k)))) s) := by
  rw [csdBytes, ← peekList_eq_map]
  exact hostQuery_readable s csd 16 _ h

theorem csdCapacityOf_version0 {b : Nat → Byte} (h : (b 0).extractLsb' 6 2 = 0#2) :
    csdCapacityOf (csdBytes b) = some (BitVec.ofNat 32 (min
      (((((b 6).extractLsb' 0 2 ++ b 7 ++ (b 8).extractLsb' 6 2).toNat + 1) *
        2 ^ (((b 9).extractLsb' 0 2 ++ (b 10).extractLsb' 7 1).toNat + 2) * 2 ^ ((b 5).extractLsb' 0 4).toNat) / 512) 0xFFFFFFFF)) := by
  unfold csdCapacityOf
  dsimp only
  rw [csd_structure, h, if_pos (by rfl), csd_readBlLen, csd_cSize, csd_cSizeMult]

theorem csdCapacityOf_version1 {b : Nat → Byte} (h : (b 0).extractLsb' 6 2 = 1#2) :
    csdCapacityOf (csdBytes b) = some (BitVec.ofNat 32 (min ((((b 7).extractLsb' 0 6 ++ b 8 ++ b 9).toNat + 1) * 1024) 0xFFFFFFFF)) := by
  unfold csdCapacityOf
  dsimp only
  rw [csd_structure, h, if_neg (by decide), if_pos (by rfl), csd_cSizeLong]

/-- A structure version above 1 is not known (R139). -/
theorem csdCapacityOf_unknown {b : Nat → Byte} (h : (b 0).extractLsb' 7 1 = 1#1) : csdCapacityOf (csdBytes b) = none := by
  have htop : (b 0).toNat / 2 ^ 7 % 2 ^ 1 = 1 := by
    rw [← toNat_extract, h]
    rfl
  unfold csdCapacityOf
  dsimp only
  rw [csd_structure, toNat_extract, if_neg (by omega), if_neg (by omega)]

/-- Below the cap the byte address does not wrap (R115, R250). -/
theorem cardArg_exact {blockAddr : Bool} {decoded addr count : U32} (hcount : count ≠ 0)
    (hrange : addr.toNat + count.toNat ≤ (capCapacity blockAddr decoded).toNat) :
    (cardArg blockAddr addr).toNat = if blockAddr then addr.toNat else addr.toNat * 512 := by
  cases blockAddr with
  | true => rfl
  | false =>
    have hpos : count.toNat ≠ 0 := fun h => hcount (BitVec.eq_of_toNat_eq h)
    have hcap : (capCapacity false decoded).toNat ≤ 2 ^ 23 := by
      unfold capCapacity
      split
      · decide
      next hsmall => simpa using hsmall
    have h512 : (512 : U32).toNat = 512 := rfl
    simp only [cardArg, Bool.false_eq_true, if_false, BitVec.toNat_mul, h512]
    omega

/-- Settles O9: each field of the CSD is a range of bits within three of its bytes at most. -/
theorem csdCapacityValue : Obligations.CsdCapacityValue := by
  refine ⟨fun blockAddr decoded addr count => cardArg_exact, fun s csd h => ?_⟩
  intro b
  have hexec : exec (.csdCapacity csd) s = .next (putRet (capacityRet (csdCapacityOf (csdBytes b))) s) := exec_csdCapacity h
  clear_value b
  rw [hexec]
  refine ⟨fun h0 => ?_, fun h1 => ?_, fun hunknown => ?_⟩
  · rw [csdCapacityOf_version0 h0, capacityRet]
  · rw [csdCapacityOf_version1 h1, capacityRet]
  · rw [csdCapacityOf_unknown hunknown, capacityRet]

end Sys2Proof.Machine
end

section
/-! The partition-table and superblock codecs (43_codecs.md sections 1 and 2). -/

namespace Sys2Proof.Machine

/-! ### Reading a block -/

/-- A part of a block read. -/
theorem take_drop_peekList (s : State) (sp : Space) (a : Nat) {n k m : Nat} (h : k + m ≤ n) :
    ((s.peekList sp a n).drop k).take m = s.peekList sp (a + k) m := by
  apply List.ext_getElem
  · simp only [List.length_take, List.length_drop, State.length_peekList]
    omega
  · intro j h1 h2
    rw [State.length_peekList] at h2
    rw [List.getElem_take, List.getElem_drop, getElem_peekList (by omega), getElem_peekList h2, Nat.add_assoc]

/-- A query of a block of 512 bytes, by the bytes it uses. -/
theorem query_eq {s : State} {a : HostAddr} {n : Nat} {f : List Byte → Ret} {r : Ret} (h : hostReadable s a n = true)
    (hr : f (s.peekList .host a.toNat n) = r) : toOutcome (hostQuery a n f s) = .next (putRet r s) := by
  rw [hostQuery_readable s a n f h, hr]

/-- The first bytes of a run are given ones. -/
theorem peekList_eq_iff (s : State) (sp : Space) (a : Nat) (bytes : List Byte) :
    s.peekList sp a bytes.length = bytes ↔ ∀ k, k < bytes.length → s.peek sp (a + k) = byteAt bytes k := by
  constructor
  · intro h k hk
    rw [← byteAt_peekList s sp a _ k hk, h]
  · intro h
    apply List.ext_getElem (State.length_peekList ..)
    intro k _ hk
    rw [getElem_peekList hk, h k hk, byteAt, List.getD_eq_getElem?_getD, List.getElem?_eq_getElem hk]
    rfl

/-- Both magics, byte by byte (R350). -/
theorem sbValid_peekList (s : State) (sp : Space) (a : Nat) :
    sbValid (s.peekList sp a 512) = (List.range 8).all fun k =>
      s.peek sp (a + k) == byteAt Config.sbMagic k && s.peek sp (a + 504 + k) == byteAt Config.sbMagic k := by
  have hmagic : Config.sbMagic.length = 8 := rfl
  have hfirst : (s.peekList sp a 512).take 8 = s.peekList sp a 8 := by
    simpa using take_drop_peekList s sp a (n := 512) (k := 0) (m := 8) (by decide)
  have hlast := take_drop_peekList s sp a (n := 512) (k := 504) (m := 8) (by decide)
  have hfirst_iff := peekList_eq_iff s sp a Config.sbMagic
  have hlast_iff := peekList_eq_iff s sp (a + 504) Config.sbMagic
  rw [hmagic] at hfirst_iff hlast_iff
  rw [Bool.eq_iff_iff]
  simp only [sbValid, hfirst, hlast, Bool.and_eq_true, beq_iff_eq, hfirst_iff, hlast_iff, List.all_eq_true, List.mem_range]
  exact ⟨fun h k hk => ⟨h.1 k hk, h.2 k hk⟩, fun h => ⟨fun k hk => (h k hk).1, fun k hk => (h k hk).2⟩⟩

/-- Settles O10: each query reads the bytes at its offset. -/
theorem blockQueries : Obligations.BlockQueries := by
  refine ⟨fun s block entry n => ⟨fun h => ?_, fun hn => ?_, fun hn h => ?_, fun h => ⟨?_, ?_, ?_, ?_⟩⟩, fun s block h => ⟨?_, ?_, ?_, ?_⟩⟩
  · refine query_eq h ?_
    rw [mbrValid, byteAt_peekList _ _ _ _ _ (by decide), byteAt_peekList _ _ _ _ _ (by decide)]
  · exact if_pos hn
  · refine (if_neg (Nat.not_lt.mpr hn)).trans (query_eq h ?_)
    rw [mbrEntry, take_drop_peekList _ _ _ (by unfold mbrEntryOffset; omega), peekList_eq_map]
    rfl
  · exact query_eq h (by rw [entryValid, byteAt_peekList _ _ _ _ _ (by decide)])
  · exact query_eq h (by rw [entryType, byteAt_peekList _ _ _ _ _ (by decide)])
  · exact query_eq h (by rw [entryStartLba, le32_peekList _ _ _ _ _ (by decide)])
  · exact query_eq h (by rw [entryLength, le32_peekList _ _ _ _ _ (by decide)])
  · exact query_eq h (by rw [sbValid_peekList])
  · exact query_eq h (by rw [sbVersionOf, byteAt_peekList _ _ _ _ _ (by decide)])
  · exact query_eq h (by rw [sbContinuedOf, byteAt_peekList _ _ _ _ _ (by decide)])
  · exact query_eq h (by rw [sbPartLen, le32_peekList _ _ _ _ _ (by decide)])

/-! ### Writing a block -/

theorem byteAt_append_left {as : List Byte} (bs : List Byte) {k : Nat} (h : k < as.length) : byteAt (as ++ bs) k = byteAt as k := by
  rw [byteAt, byteAt, List.getD_append _ _ _ _ h]

theorem byteAt_append_right (as bs : List Byte) (k : Nat) : byteAt (as ++ bs) (as.length + k) = byteAt bs k := by
  rw [byteAt, byteAt, List.getD_append_right _ _ _ _ (Nat.le_add_right _ _), Nat.add_sub_cancel_left]

/-- The bytes of a zero run. -/
theorem byteAt_replicate_zero (n k : Nat) : byteAt (List.replicate n 0) k = 0 := by
  rw [byteAt, List.getD_eq_getElem?_getD, List.getElem?_replicate]
  split <;> rfl

/-- A byte stored is read back. -/
theorem peek_poke {s : State} {sp : Space} {a k : Nat} {bytes : List Byte} (hw : (s.mem.space sp).wf = true) (h : k < bytes.length) :
    (s.poke sp a bytes).peek sp (a + k) = byteAt bytes k := by
  rw [State.peek_poke_inside s sp a k bytes hw h, byteAt, List.getD_eq_getElem?_getD, List.getElem?_eq_getElem h]
  rfl

/-- A word within the bytes stored is read back. -/
theorem field32_poke {s : State} {sp : Space} {a : Nat} (as : List Byte) (v : U32) (bs : List Byte) (hw : (s.mem.space sp).wf = true) :
    field32 (s.poke sp a (as ++ (le32Bytes v ++ bs))) sp (a + as.length) = v := by
  have hlength : (as ++ (le32Bytes v ++ bs)).length = as.length + (4 + bs.length) := by
    rw [List.length_append, List.length_append]
    rfl
  have hbyte : ∀ k, k < 4 → (s.poke sp a (as ++ (le32Bytes v ++ bs))).peek sp (a + as.length + k) = byteAt (le32Bytes v) k := by
    intro k hk
    rw [Nat.add_assoc, peek_poke hw (by omega), byteAt_append_right, byteAt_append_left bs hk]
  have hzero := hbyte 0 (by decide)
  rw [Nat.add_zero] at hzero
  rw [field32, hbyte 3 (by decide), hbyte 2 (by decide), hbyte 1 (by decide), hzero]
  exact pack32_byteOf v

@[simp] theorem peek_putRet (r : Ret) (s : State) (sp : Space) (a : Nat) : (putRet r s).peek sp a = s.peek sp a := rfl

@[simp] theorem field32_putRet (r : Ret) (s : State) (sp : Space) (a : Nat) : field32 (putRet r s) sp a = field32 s sp a := rfl

theorem hostReadable_putRet_poke (r : Ret) (s : State) (sp : Space) (x : Nat) (bytes : List Byte) (a : HostAddr) (n : Nat) :
    hostReadable (putRet r (s.poke sp x bytes)) a n = hostReadable s a n := rfl

theorem mem_putRet_poke (r : Ret) (s : State) (sp : Space) (x : Nat) (bytes : List Byte) :
    { putRet r (s.poke sp x bytes) with mem := s.mem } = putRet r s := rfl

theorem length_mbrTableBytes : mbrTableBytes.length = 512 := by
  rw [mbrTableBytes, List.length_append, List.length_replicate]
  rfl

/-- An empty table: zeros and the signature, which makes it valid (R346). -/
theorem mbrTable_written {t : State} {a : Nat} (h : ∀ k, k < 512 → t.peek .host (a + k) = byteAt mbrTableBytes k) :
    (∀ k, k < 510 → t.peek .host (a + k) = 0) ∧ t.peek .host (a + 510) = 0x55 ∧ t.peek .host (a + 511) = 0xAA ∧
      mbrValid (t.peekList .host a 512) = true := by
  have hzero : ∀ k, k < 510 → t.peek .host (a + k) = 0 := by
    intro k hk
    rw [h k (by omega), mbrTableBytes, byteAt_append_left _ (by rw [List.length_replicate]; exact hk), byteAt_replicate_zero]
  have hsig : ∀ k, k < 2 → t.peek .host (a + (510 + k)) = byteAt [0x55, 0xAA] k := by
    intro k hk
    have happend := byteAt_append_right (List.replicate 510 (0 : Byte)) [0x55, 0xAA] k
    rw [List.length_replicate] at happend
    rw [h (510 + k) (by omega), mbrTableBytes, happend]
  have h510 : t.peek .host (a + 510) = 0x55 := hsig 0 (by decide)
  have h511 : t.peek .host (a + 511) = 0xAA := hsig 1 (by decide)
  refine ⟨hzero, h510, h511, ?_⟩
  rw [mbrValid, byteAt_peekList _ _ _ _ _ (by decide), byteAt_peekList _ _ _ _ _ (by decide), h510, h511]
  rfl

/-- An entry's bytes: its type among zeros, its start and its length (R347). -/
theorem mbrEntry_written {s : State} {a : Nat} (type : Byte) (start length : U32) (hw : (s.mem.space .host).wf = true) :
    (∀ k, k < 8 → (s.poke .host a (mbrEntryBytes type start length)).peek .host (a + k) = if k = 4 then type else 0) ∧
      field32 (s.poke .host a (mbrEntryBytes type start length)) .host (a + 8) = start ∧
      field32 (s.poke .host a (mbrEntryBytes type start length)) .host (a + 12) = length := by
  have hlength : (mbrEntryBytes type start length).length = 16 := rfl
  refine ⟨fun k hk => ?_, ?_, ?_⟩
  · rw [peek_poke hw (by rw [hlength]; omega)]
    rcases (show k = 0 ∨ k = 1 ∨ k = 2 ∨ k = 3 ∨ k = 4 ∨ k = 5 ∨ k = 6 ∨ k = 7 by omega) with
      rfl | rfl | rfl | rfl | rfl | rfl | rfl | rfl <;> rfl
  · have hbytes : mbrEntryBytes type start length = [0, 0, 0, 0, type, 0, 0, 0] ++ (le32Bytes start ++ le32Bytes length) := rfl
    rw [hbytes]
    exact field32_poke [0, 0, 0, 0, type, 0, 0, 0] start (le32Bytes length) hw
  · have hbytes : mbrEntryBytes type start length = ([0, 0, 0, 0, type, 0, 0, 0] ++ le32Bytes start) ++ (le32Bytes length ++ []) := rfl
    rw [hbytes]
    exact field32_poke ([0, 0, 0, 0, type, 0, 0, 0] ++ le32Bytes start) length [] hw

/-- Settles O11: the bytes written are read back, and no others change. -/
theorem partitionTableWriters : Obligations.PartitionTableWriters := by
  intro s block n type start length hw h
  have hw : (s.mem.space .host).wf = true := hw
  refine ⟨⟨_, hostStore_readable s block 0 mbrTableBytes .none h, mem_putRet_poke .., ?_⟩, fun hn => if_pos hn, fun hn => ?_⟩
  · have hlength := length_mbrTableBytes
    have hbyte : ∀ k, k < 512 →
        (putRet .none (s.poke .host (block.toNat + 0) mbrTableBytes)).peek .host (block.toNat + k) = byteAt mbrTableBytes k := by
      intro k hk
      rw [peek_putRet, Nat.add_zero, peek_poke hw (by rw [hlength]; exact hk)]
    have hother : ∀ sp a, sp ≠ .host ∨ a < block.toNat ∨ block.toNat + 512 ≤ a →
        (putRet .none (s.poke .host (block.toNat + 0) mbrTableBytes)).peek sp a = s.peek sp a := by
      intro sp a hout
      rw [peek_putRet, Nat.add_zero, State.peek_poke_outside s .host sp _ a mbrTableBytes (by rw [hlength]; exact hout)]
    have hreadable := (hostReadable_putRet_poke .none s .host (block.toNat + 0) mbrTableBytes block 512).trans h
    generalize putRet .none (s.poke .host (block.toNat + 0) mbrTableBytes) = t at hbyte hother hreadable ⊢
    obtain ⟨hzero, h510, h511, hvalid⟩ := mbrTable_written hbyte
    exact ⟨hzero, h510, h511, hother, query_eq hreadable (by rw [hvalid])⟩
  · have hoff : block.toNat + mbrEntryOffset n.toNat = block.toNat + 446 + 16 * n.toNat := by unfold mbrEntryOffset; omega
    have hend : block.toNat + 462 + 16 * n.toNat = block.toNat + 446 + 16 * n.toNat + 16 := by omega
    refine ⟨_, (if_neg (Nat.not_lt.mpr hn)).trans (hostStore_readable s block _ (mbrEntryBytes type start length) (.code .ok) h),
      mem_putRet_poke .., ?_⟩
    simp only [peek_putRet, field32_putRet]
    rw [hoff, hend]
    obtain ⟨hbytes, hstart, hlen⟩ := mbrEntry_written (a := block.toNat + 446 + 16 * n.toNat) type start length hw
    exact ⟨hbytes, hstart, hlen, fun sp x hout => State.peek_poke_outside s .host sp _ x _ hout⟩

/-! ### Flight records -/

/-- A record's three words (R354). -/
theorem flightGet_peekList (s : State) (sp : Space) (a : Nat) {i : Nat} (hi : i ≤ 31) :
    flightGet (s.peekList sp a 512) i =
      (field32 s sp (a + (96 + 12 * i)), field32 s sp (a + (100 + 12 * i)), field32 s sp (a + (104 + 12 * i))) := by
  have h100 : a + (96 + 12 * i + 4) = a + (100 + 12 * i) := by omega
  have h104 : a + (96 + 12 * i + 8) = a + (104 + 12 * i) := by omega
  unfold flightGet flightOffset
  rw [le32_peekList _ _ _ _ _ (by omega), le32_peekList _ _ _ _ _ (by omega), le32_peekList _ _ _ _ _ (by omega), h100, h104]

theorem flight_written {s : State} {a : Nat} (first num ts : U32) (hw : (s.mem.space .host).wf = true) :
    field32 (s.poke .host a (flightBytes first num ts)) .host a = first ∧
      field32 (s.poke .host a (flightBytes first num ts)) .host (a + 4) = num ∧
      field32 (s.poke .host a (flightBytes first num ts)) .host (a + 8) = ts := by
  refine ⟨?_, ?_, ?_⟩
  · have hbytes : flightBytes first num ts = [] ++ (le32Bytes first ++ (le32Bytes num ++ le32Bytes ts)) := rfl
    rw [hbytes]
    exact field32_poke [] first _ hw
  · have hbytes : flightBytes first num ts = le32Bytes first ++ (le32Bytes num ++ le32Bytes ts) := rfl
    rw [hbytes]
    exact field32_poke (le32Bytes first) num _ hw
  · have hbytes : flightBytes first num ts = (le32Bytes first ++ le32Bytes num) ++ (le32Bytes ts ++ []) := rfl
    rw [hbytes]
    exact field32_poke (le32Bytes first ++ le32Bytes num) ts [] hw

/-- The lowest free slot, among `n` from the `i`-th. -/
theorem firstFreeFrom_eq_some {block : List Byte} {i k n : Nat} (hk : k < n) (hfree : le32 block (flightOffset (i + k)) = 0)
    (hbefore : ∀ j, j < k → le32 block (flightOffset (i + j)) ≠ 0) : firstFreeFrom block i n = some (i + k) := by
  induction n generalizing i k with
  | zero => omega
  | succ n ih =>
    unfold firstFreeFrom
    cases k with
    | zero => exact if_pos hfree
    | succ k =>
      have hidx : ∀ j, i + 1 + j = i + (j + 1) := fun j => by omega
      have hused := hbefore 0 (Nat.succ_pos k)
      rw [Nat.add_zero] at hused
      rw [if_neg hused, ih (i := i + 1) (k := k) (by omega) (by rw [hidx]; exact hfree)
        (fun j hj => by rw [hidx]; exact hbefore (j + 1) (by omega)), hidx]

theorem firstFreeFrom_eq_none {block : List Byte} {i n : Nat} (h : ∀ j, j < n → le32 block (flightOffset (i + j)) ≠ 0) :
    firstFreeFrom block i n = none := by
  induction n generalizing i with
  | zero => rfl
  | succ n ih =>
    have hidx : ∀ j, i + 1 + j = i + (j + 1) := fun j => by omega
    unfold firstFreeFrom
    have hused := h 0 (Nat.succ_pos n)
    rw [Nat.add_zero] at hused
    rw [if_neg hused, ih fun j hj => by rw [hidx]; exact h (j + 1) (by omega)]

/-- A slot's first block, in a block read. -/
theorem slotFirst_peekList (s : State) (sp : Space) (a : Nat) {i : Nat} (hi : i < 32) :
    le32 (s.peekList sp a 512) (flightOffset i) = field32 s sp (a + (96 + 12 * i)) := by
  unfold flightOffset
  rw [le32_peekList _ _ _ _ _ (by omega)]

/-- The slot selected where `f` is the lowest free one (R356). -/
theorem flightSlotFor_free {s : State} {sp : Space} {a f : Nat} (cont : Bool) (hf : f < 32)
    (hfree : field32 s sp (a + (96 + 12 * f)) = 0) (hbefore : ∀ j, j < f → field32 s sp (a + (96 + 12 * j)) ≠ 0) :
    flightSlotFor (s.peekList sp a 512) cont =
      if cont = true ∧ f ≠ 0 then some (f - 1, .continued) else some (f, .fresh) := by
  have hfirst : firstFreeFrom (s.peekList sp a 512) 0 Config.nFlights = some f := by
    have := firstFreeFrom_eq_some (block := s.peekList sp a 512) (i := 0) (k := f) (n := 32) hf
      (by rw [Nat.zero_add, slotFirst_peekList s sp a hf, hfree])
      (fun j hj => by rw [Nat.zero_add, slotFirst_peekList s sp a (by omega)]; exact hbefore j hj)
    rw [Nat.zero_add] at this
    exact this
  unfold flightSlotFor
  rw [hfirst]
  dsimp only
  cases cont <;> by_cases h0 : f = 0 <;> simp [h0]

/-- The slot selected where none is free. -/
theorem flightSlotFor_full {s : State} {sp : Space} {a : Nat} (cont : Bool)
    (hfull : ∀ j, j < 32 → field32 s sp (a + (96 + 12 * j)) ≠ 0) :
    flightSlotFor (s.peekList sp a 512) cont = if cont then some (31, .continued) else none := by
  have hfirst : firstFreeFrom (s.peekList sp a 512) 0 Config.nFlights = none :=
    firstFreeFrom_eq_none (i := 0) (n := 32) fun j hj => by
      rw [Nat.zero_add, slotFirst_peekList s sp a hj]
      exact hfull j hj
  unfold flightSlotFor
  rw [hfirst]

/-- Settles O12: a record is three words at its offset; the selection follows the lowest free slot. -/
theorem flightRecords : Obligations.FlightRecords := by
  refine ⟨fun s block i first num ts => ⟨fun hi => ⟨if_pos hi, if_pos hi⟩, fun hi h => ?_, fun hi h hw => ?_⟩,
    fun s block cont h => ⟨fun f hf hfree hbefore => ?_, fun hfull => ?_⟩⟩
  · refine (if_neg (Nat.not_lt.mpr hi)).trans (query_eq h ?_)
    rw [flightGet_peekList s .host _ hi]
  · have hw : (s.mem.space .host).wf = true := hw
    refine ⟨_, (if_neg (Nat.not_lt.mpr hi)).trans (hostStore_readable s block _ (flightBytes first num ts) (.code .ok) h),
      mem_putRet_poke .., ?_⟩
    have hoff : block.toNat + flightOffset i.toNat = block.toNat + (96 + 12 * i.toNat) := rfl
    have h100 : block.toNat + (100 + 12 * i.toNat) = block.toNat + (96 + 12 * i.toNat) + 4 := by omega
    have h104 : block.toNat + (104 + 12 * i.toNat) = block.toNat + (96 + 12 * i.toNat) + 8 := by omega
    have h108 : block.toNat + (108 + 12 * i.toNat) = block.toNat + (96 + 12 * i.toNat) + 12 := by omega
    simp only [peek_putRet, field32_putRet]
    rw [hoff, h100, h104, h108]
    obtain ⟨hfirst, hnum, hts⟩ := flight_written (a := block.toNat + (96 + 12 * i.toNat)) first num ts hw
    exact ⟨hfirst, hnum, hts, fun sp x hout => State.peek_poke_outside s .host sp _ x _ hout⟩
  · refine query_eq h ?_
    rw [flightSlotFor_free cont hf hfree hbefore]
    split <;> rfl
  · refine query_eq h ?_
    rw [flightSlotFor_full cont hfull]
    split <;> rfl

/-! ### An empty superblock -/

/-- The bytes `sb_init` writes, cut where the zeros begin and end (R357). -/
theorem sbInitBytes_eq (version : Byte) (partLen : U32) : sbInitBytes version partLen =
    (Config.sbMagic ++ [version, 0, 0, 0] ++ le32Bytes partLen) ++ (List.replicate 488 0 ++ Config.sbMagic) := by
  unfold sbInitBytes
  rw [List.append_assoc _ (List.replicate 488 0)]

theorem length_sbInitBytes (version : Byte) (partLen : U32) : (sbInitBytes version partLen).length = 512 := by
  rw [sbInitBytes_eq, List.length_append, List.length_append (as := List.replicate 488 0), List.length_replicate]
  rfl

/-- Byte by byte. -/
theorem byteAt_sbInitBytes (version : Byte) (partLen : U32) :
    (∀ k, k < 16 → byteAt (sbInitBytes version partLen) k = byteAt (Config.sbMagic ++ [version, 0, 0, 0] ++ le32Bytes partLen) k) ∧
      (∀ k, 16 ≤ k → k < 504 → byteAt (sbInitBytes version partLen) k = 0) ∧
      ∀ k, byteAt (sbInitBytes version partLen) (504 + k) = byteAt Config.sbMagic k := by
  have hhead : (Config.sbMagic ++ [version, 0, 0, 0] ++ le32Bytes partLen).length = 16 := rfl
  have hzeros : (List.replicate 488 (0 : Byte)).length = 488 := List.length_replicate
  rw [sbInitBytes_eq]
  refine ⟨fun k hk => byteAt_append_left _ (by rw [hhead]; exact hk), fun k hlow hhigh => ?_, fun k => ?_⟩
  · have htail := byteAt_append_right (Config.sbMagic ++ [version, 0, 0, 0] ++ le32Bytes partLen) (List.replicate 488 0 ++ Config.sbMagic) (k - 16)
    rw [hhead, show 16 + (k - 16) = k by omega] at htail
    rw [htail, byteAt_append_left _ (by rw [hzeros]; omega), byteAt_replicate_zero]
  · have htail := byteAt_append_right (Config.sbMagic ++ [version, 0, 0, 0] ++ le32Bytes partLen) (List.replicate 488 0 ++ Config.sbMagic) (488 + k)
    have hmagic := byteAt_append_right (List.replicate 488 (0 : Byte)) Config.sbMagic k
    rw [hhead, show 16 + (488 + k) = 504 + k by omega] at htail
    rw [hzeros] at hmagic
    rw [htail, hmagic]

/-- What a state holds where those bytes stand: the fields, a valid superblock, and slot 0 free. -/
theorem superblock_written {t : State} {a : Nat} {version : Byte} {partLen : U32}
    (h : ∀ k, k < 512 → t.peek .host (a + k) = byteAt (sbInitBytes version partLen) k) :
    (∀ k, k < 8 → t.peek .host (a + k) = byteAt Config.sbMagic k ∧ t.peek .host (a + 504 + k) = byteAt Config.sbMagic k) ∧
      t.peek .host (a + 8) = version ∧ field32 t .host (a + 12) = partLen ∧
      (∀ k, (9 ≤ k ∧ k < 12) ∨ (16 ≤ k ∧ k < 504) → t.peek .host (a + k) = 0) := by
  obtain ⟨hhead, hzero, htail⟩ := byteAt_sbInitBytes version partLen
  refine ⟨fun k hk => ⟨?_, ?_⟩, ?_, ?_, fun k hk => ?_⟩
  · rw [h k (by omega), hhead k (by omega), List.append_assoc, byteAt_append_left _ (by exact hk)]
  · rw [Nat.add_assoc, h (504 + k) (by omega), htail]
  · rw [h 8 (by decide), hhead 8 (by decide)]
    rfl
  · have hbyte : ∀ k, k < 16 → t.peek .host (a + k) = byteAt (Config.sbMagic ++ [version, 0, 0, 0] ++ le32Bytes partLen) k :=
      fun k hk => by rw [h k (by omega), hhead k hk]
    rw [field32, Nat.add_assoc, Nat.add_assoc, Nat.add_assoc, hbyte 15 (by decide), hbyte 14 (by decide), hbyte 13 (by decide), hbyte 12 (by decide)]
    exact pack32_byteOf partLen
  · rcases hk with ⟨hlow, hhigh⟩ | ⟨hlow, hhigh⟩
    · rw [h k (by omega), hhead k (by omega)]
      rcases (show k = 9 ∨ k = 10 ∨ k = 11 by omega) with rfl | rfl | rfl <;> rfl
    · rw [h k (by omega), hzero k hlow hhigh]

/-- Settles O13: the bytes written make both magics, and zeros in slot 0's first block. -/
theorem superblockInit : Obligations.SuperblockInit := by
  intro s block partLen hw h
  have hw : (s.mem.space .host).wf = true := hw
  refine ⟨_, hostStore_readable s block 0 (sbInitBytes s.cfg.sbVersion partLen) .none h, mem_putRet_poke .., ?_⟩
  have hlength := length_sbInitBytes s.cfg.sbVersion partLen
  have hbyte : ∀ k, k < 512 → (putRet .none (s.poke .host (block.toNat + 0) (sbInitBytes s.cfg.sbVersion partLen))).peek .host
      (block.toNat + k) = byteAt (sbInitBytes s.cfg.sbVersion partLen) k := by
    intro k hk
    rw [peek_putRet, Nat.add_zero, peek_poke hw (by rw [hlength]; exact hk)]
  have hother : ∀ sp a, sp ≠ .host ∨ a < block.toNat ∨ block.toNat + 512 ≤ a →
      (putRet .none (s.poke .host (block.toNat + 0) (sbInitBytes s.cfg.sbVersion partLen))).peek sp a = s.peek sp a := by
    intro sp a hout
    rw [peek_putRet, Nat.add_zero, State.peek_poke_outside s .host sp _ a _ (by rw [hlength]; exact hout)]
  have hreadable := (hostReadable_putRet_poke .none s .host (block.toNat + 0) (sbInitBytes s.cfg.sbVersion partLen) block 512).trans h
  generalize putRet .none (s.poke .host (block.toNat + 0) (sbInitBytes s.cfg.sbVersion partLen)) = t at hbyte hother hreadable ⊢
  obtain ⟨hmagic, hversion, hlen, hzero⟩ := superblock_written hbyte
  refine ⟨hmagic, hversion, hlen, hzero, hother, query_eq hreadable ?_, query_eq hreadable ?_⟩
  · rw [sbValid_peekList]
    congr 1
    rw [List.all_eq_true]
    intro k hk
    obtain ⟨hfirst, hlast⟩ := hmagic k (List.mem_range.mp hk)
    rw [hfirst, hlast, beq_self_eq_true, Bool.and_self]
  · have hslot : field32 t .host (block.toNat + (96 + 12 * 0)) = 0 := by
      have hbytes : ∀ k, k < 4 → t.peek .host (block.toNat + (96 + 12 * 0) + k) = 0 := fun k hk => by
        rw [Nat.add_assoc]
        exact hzero _ (by omega)
      have hbyte0 := hbytes 0 (by decide)
      rw [Nat.add_zero] at hbyte0
      rw [field32, hbytes 3 (by decide), hbytes 2 (by decide), hbytes 1 (by decide), hbyte0]
      rfl
    rw [flightSlotFor_free true (by decide) hslot (fun j hj => absurd hj (Nat.not_lt_zero j))]
    rfl

end Sys2Proof.Machine
end

section
/-! Fetching and running an entry of the agenda (30_encoding.md section 8, 46_ports.md R468), and the exception entry (60_exceptions.md R503). -/

namespace Sys2Proof.Machine

/-! ### An entry of the agenda -/

/-- An instruction fetched for a context that may make it is run in it. -/
theorem step_run {s : State} {ev : Event} {rest : List Event} {ctx : Ctx} {i : Instr} (h : s.env.agenda = ev :: rest)
    (hf : fetch ev = .run ctx i) (hctx : allowed ctx i = true) :
    step s = exec i { s with env := { s.env with agenda := rest, ctx := ctx } } := by
  unfold step
  rw [h]
  dsimp only
  rw [hf]
  dsimp only
  rw [if_pos hctx]
  rfl

theorem step_misuse {s : State} {ev : Event} {rest : List Event} {ctx : Ctx} {i : Instr} (h : s.env.agenda = ev :: rest)
    (hf : fetch ev = .run ctx i) (hctx : allowed ctx i = false) : step s = .refused .contextMisuse := by
  unfold step
  rw [h]
  dsimp only
  rw [hf]
  dsimp only
  rw [hctx, if_neg Bool.false_ne_true]

theorem step_unassigned {s : State} {ev : Event} {rest : List Event} {ctx : Ctx} (h : s.env.agenda = ev :: rest)
    (hf : fetch ev = .unassigned ctx) :
    step s = .next (putCode .rejected { s with env := { s.env with agenda := rest, ctx := ctx } }) := by
  unfold step
  rw [h]
  dsimp only
  rw [hf]
  rfl

theorem fetch_wire {f : Format} {word more : List Byte} {i : Instr} (h : decode f word = .ok (i, more)) :
    fetch (.wire f word) = .run .main i := by
  unfold fetch
  dsimp only
  rw [h]

theorem fetch_call {ctx : Ctx} {record more : List Byte} {i : Instr} (h : decode .hostop record = .ok (i, more)) :
    fetch (.call ctx record) = .run ctx i := by
  unfold fetch
  dsimp only
  rw [h]

/-- A word of the opcode table is fetched as the instruction it decodes to, for main. -/
theorem fetch_tableEvent {nbits w : Nat} {i : Instr} (h : decodeTableWord nbits w = some i) : fetch (tableEvent nbits w) = .run .main i := by
  unfold decodeTableWord at h
  split at h
  next f hf =>
    split at h
    next i' more hdecode =>
      cases h
      unfold tableEvent
      rw [hf]
      cases f with
      | hostop => exact fetch_call hdecode
      | frame | resp | readToken | writeToken | dataResp => exact fetch_wire hdecode
    next => cases h
  next => cases h

/-- Settles O5: the entry's bytes decode to the instruction its format reads, and the step is its meaning. -/
theorem stepRunsDecoded : Obligations.StepRunsDecoded := by
  refine ⟨fun s f word more i rest hdecode hagenda => ?_, fun s ctx record more i rest hdecode hagenda hctx => ?_,
    fun s nbits w i htable => ?_⟩
  · exact step_run hagenda (fetch_wire hdecode) rfl
  · refine step_run hagenda (fetch_call hdecode) ?_
    cases ctx with
    | main => rfl
    | irq => exact hctx rfl
  · exact step_run (s := s.withFetchWord nbits w) (rest := s.env.agenda) rfl (fetch_tableEvent htable) rfl

/-! ### Calls turned away -/

/-- Every code of R157's table has its own row; no other has one. -/
theorem decodeHostOp_unassigned {code : Byte} (h : code.toNat ∉ assignedHostCodes) (operands : List Byte) :
    decodeHostOp code operands = .error (.unassignedHostCode code) := by
  unfold decodeHostOp
  split
  case h_44 => rfl
  all_goals
    rename_i hcode
    exact absurd (by rw [hcode]; decide) h

theorem fetch_unassigned {code : Byte} (h : code.toNat ∉ assignedHostCodes) (ctx : Ctx) (operands : List Byte) :
    fetch (.call ctx (code :: operands)) = .unassigned ctx := by
  have hdecode : decode .hostop (code :: operands) = .error (.unassignedHostCode code) := decodeHostOp_unassigned h operands
  unfold fetch
  dsimp only
  rw [hdecode]

/-- Irq context makes a producer's calls and no others (R468). -/
theorem irqCall_misuse {i : Instr} (h : isProducer i = false) (s : State) : irqCall i s = .error (.refused .contextMisuse) := by
  cases i
  case checkout | checkin | log | logGather | flightBlocks | missedCheckouts => cases h
  all_goals rfl

/-- Settles O24: an unassigned code is fetched as one, and irq's list and a callback's leave out what they refuse. -/
theorem callsTurnedAway : Obligations.CallsTurnedAway := by
  refine ⟨fun s code operands rest hcode hagenda => ?_, fun s code operands rest hcode hagenda => ?_,
    fun s record more i rest hdecode hproducer hagenda => ?_, fun s i hproducer => irqCall_misuse hproducer s, fun s now cardDetect => ⟨rfl, rfl⟩⟩
  · exact step_unassigned hagenda (fetch_unassigned hcode .main operands)
  · exact step_unassigned hagenda (fetch_unassigned hcode .irq operands)
  · exact step_misuse hagenda (fetch_call hdecode) hproducer

/-! ### The exception entry -/

theorem finalOfMany_iff (o : Op) : finalOfMany o = true ↔ 1 < o.count ∧ o.idx = o.count - 1 := by
  simp [finalOfMany]

theorem initFail_eq_stepFailed (first : InitStep) (e : Err) (s : State) : initFail first e s = stepFailed first e s := by
  unfold initFail stepFailed
  by_cases h : s.cfg.retryCeiling < s.sd.retryCnt + 1
  · simp only [State.onSd_sd, State.onSd_cfg, h, if_true]
    rfl
  · simp only [State.onSd_sd, State.onSd_cfg, h, if_false]
    rfl

/-- A single block ends its operation. -/
theorem abortTo_single {s : State} (h : s.op.count = 1) (p : OpPhase) : abortTo p s = finish false .ready s := by
  rw [abortTo, if_pos h]

theorem abortTo_many {s : State} (h : s.op.count ≠ 1) (p : OpPhase) :
    abortTo p s = { s with sd := { s.sd with opPhase := p, cmdPh := .idle } } := by
  rw [abortTo, if_neg h]
  rfl

theorem runCallback_client {s : State} {c : CbCall} (hqueue : s.env.cbQueue = some c) (hclient : c.cb.isClient = true)
    (hscript : s.env.cbScript = []) :
    runCallback s = .ok { s with env := { s.env with cbQueue := none, callbacks := s.env.callbacks ++ [c.record] } } := by
  unfold runCallback
  rw [hqueue]
  dsimp only
  obtain ⟨cb, ctx, success, blocks⟩ := c
  cases cb with
  | logRead | logData | logSb => cases hclient
  | client id =>
    have htail : s.env.cbScript.tail = s.env.cbScript := by rw [hscript]; rfl
    unfold clientCallback
    simp only [State.onEnv_env, hscript]
    show Except.ok { s with env := { s.env with cbQueue := none, cbScript := s.env.cbScript.tail, callbacks := s.env.callbacks ++ [_] } } = _
    rw [htail, hscript]

/-- The callback of a client that makes no call is recorded (R469, R503). -/
theorem runCallback_finish {s : State} (h : quietClient s = true) (success : Bool) (dest : SdState) :
    runCallback (finish success dest s) = .ok (finished success dest s) := by
  simp only [quietClient, Bool.and_eq_true, List.isEmpty_iff] at h
  exact runCallback_client (s := finish success dest s) rfl h.1 h.2

/-- Settles O29: in initialisation the step fails; elsewhere the error is kept and the phase decides. -/
theorem raiseAndFinish : Obligations.RaiseAndFinish := by
  intro s e
  refine ⟨fun hinit => ?_, fun hop => ⟨fun hphase => ?_, fun hphase hcount => ?_, fun hphase hcount => ?_, fun hphase hcount hlast => ?_,
    fun hphase hcount => ?_⟩, fun success dest => ⟨rfl, fun hquiet => runCallback_finish hquiet success dest⟩⟩
  · rw [raise_of_init hinit, initFail_eq_stepFailed]
    rfl
  all_goals
    rw [raise_of_ne_init hop]
    have hkeep : keepError e s = withError e s := rfl
    have hcounts : (withError e s).op.count = s.op.count := rfl
    have hidx : (withError e s).op.idx = s.op.idx := rfl
    rw [hkeep]
  · simp only [List.mem_cons, List.not_mem_nil, or_false] at hphase
    rcases hphase with h | h | h | h | h <;> rw [h] <;> rfl
  · simp only [List.mem_cons, List.not_mem_nil, or_false] at hphase
    rcases hphase with h | h | h | h | h <;> rw [h]
    case inr.inl =>
      have hnot : ¬(finalOfMany (withError e s).op = true) := by
        rw [finalOfMany_iff, hcounts, hcount]
        exact fun h => absurd h.1 (by decide)
      rw [raiseFrom, if_neg hnot]
      exact abortTo_single (hcounts.trans hcount) _
    all_goals exact abortTo_single (hcounts.trans hcount) _
  · have hmany : (withError e s).op.count ≠ 1 := by
      rw [hcounts]
      intro h
      rw [h] at hcount
      exact absurd hcount (by decide)
    rcases hphase with h | ⟨h, hnot⟩ <;> rw [h]
    · exact abortTo_many hmany _
    · have hnot : ¬(finalOfMany (withError e s).op = true) := fun h => hnot ((finalOfMany_iff _).mp h).2
      rw [raiseFrom, if_neg hnot]
      exact abortTo_many hmany _
  · have hfinal : finalOfMany (withError e s).op = true := (finalOfMany_iff _).mpr ⟨hcount, hlast⟩
    rw [hphase, raiseFrom, if_pos hfinal]
    rfl
  · have hmany : (withError e s).op.count ≠ 1 := hcount
    simp only [List.mem_cons, List.not_mem_nil, or_false] at hphase
    rcases hphase with h | h | h <;> rw [h] <;> exact abortTo_many hmany _

end Sys2Proof.Machine
end

section
/-! One handler run of the SD engine, from the control tuple (42_block_io.md section 2): which handler runs, what a search makes of the retained
bytes, and the callback a run requests. -/

namespace Sys2Proof.Machine

/-! ### The control tuple -/

theorem atInit_iff {st : InitStep} {s : State} : atInit st s = true ↔ s.sd.state = .init ∧ s.sd.initStep = st := by
  simp [atInit]

theorem atPhase_iff {st : SdState} {p : OpPhase} {s : State} :
    atPhase st p s = true ↔ s.sd.state = st ∧ s.op.valid = true ∧ s.sd.opPhase = p := by
  simp [atPhase, and_assoc]

theorem engineFree_iff {s : State} : engineFree s = true ↔ s.sd.xferPending = false ∧ s.env.cardDetect = true := by
  simp [engineFree]

/-- The handler of a phase of a read. -/
theorem sdHandler_atRead {p : OpPhase} {s : State} (h : atPhase .read p s = true) (hr : respMeaningless s = false) :
    sdHandler s = readHandler s := sdHandler_read (atPhase_iff.mp h).1 (atPhase_iff.mp h).2.1 hr

/-- The handler of a phase of a write. -/
theorem sdHandler_atWrite {p : OpPhase} {s : State} (h : atPhase .write p s = true) (hr : respMeaningless s = false) :
    sdHandler s = writeHandler s := sdHandler_write (atPhase_iff.mp h).1 (atPhase_iff.mp h).2.1 hr

/-- A phase that ends no command examines no response. -/
theorem respMeaningless_of_examined {s : State} (h : respExamined s = 0) : respMeaningless s = false :=
  respMeaningless_of_got (by omega)

/-! ### The callback of a run -/

/-- A run that requests no callback. -/
theorem run_quiet {s t : State} {c : Ctl} {x : Except Stop (Ctl × State)} (hx : x = .ok (c, t)) (hs : t.env.cbQueue = s.env.cbQueue)
    (hqueue : s.env.cbQueue = none) : (x >>= fun r => runCallback r.2) = .ok t := by
  rw [hx]
  exact runCallback_none (hs.trans hqueue)

/-- A run that ends a client's operation, whose callback makes no call. -/
theorem run_finish {s u : State} {c : Ctl} {x : Except Stop (Ctl × State)} {success : Bool} {dest : SdState}
    (hx : x = .ok (c, finish success dest u)) (hop : u.op.cb = s.op.cb) (henv : u.env.cbScript = s.env.cbScript)
    (hquiet : quietClient s = true) : (x >>= fun r => runCallback r.2) = .ok (finished success dest u) := by
  have hu : quietClient u = true := by
    unfold quietClient at hquiet ⊢
    rw [hop, henv]
    exact hquiet
  rw [hx]
  exact runCallback_finish hu success dest

/-- A round is its body, with the callback it requests. -/
theorem pollRound_eq {s : State} {c : Ctl} {t u : State} (hbody : pollBody s = .ok (c, t)) (hcallback : runCallback t = .ok u) :
    pollRound s = .ok (c, u) := by
  unfold pollRound
  rw [hbody]
  show (runCallback t >>= fun s => Except.ok (c, s)) = _
  rw [hcallback]
  rfl

theorem pollRound_quiet {s : State} {c : Ctl} {t : State} (hbody : pollBody s = .ok (c, t)) (hs : t.env.cbQueue = s.env.cbQueue)
    (hqueue : s.env.cbQueue = none) : pollRound s = .ok (c, t) :=
  pollRound_eq hbody (runCallback_none (hs.trans hqueue))

theorem quietClient_congr {s u : State} (hop : u.op.cb = s.op.cb) (henv : u.env.cbScript = s.env.cbScript) :
    quietClient u = quietClient s := by
  unfold quietClient
  rw [hop, henv]

theorem pollRound_finish {s u : State} {c : Ctl} {success : Bool} {dest : SdState}
    (hbody : pollBody s = .ok (c, finish success dest u)) (hop : u.op.cb = s.op.cb) (henv : u.env.cbScript = s.env.cbScript)
    (hquiet : quietClient s = true) : pollRound s = .ok (c, finished success dest u) :=
  pollRound_eq hbody (runCallback_finish ((quietClient_congr hop henv).trans hquiet) success dest)

/-- A word the engine sends, from its handler's run. -/
theorem sendWord_quiet {s t : State} {c : Ctl} (hfree : engineFree s = true) (hrun : sdHandler s = .ok (c, t))
    (hs : t.env.cbQueue = s.env.cbQueue) (hqueue : s.env.cbQueue = none) : sendWord true s = .next t := by
  rw [sendWord_selected s hfree, run_quiet hrun hs hqueue]
  rfl

theorem sendWord_finish {s u : State} {c : Ctl} {success : Bool} {dest : SdState} (hfree : engineFree s = true)
    (hrun : sdHandler s = .ok (c, finish success dest u)) (hop : u.op.cb = s.op.cb) (henv : u.env.cbScript = s.env.cbScript)
    (hquiet : quietClient s = true) : sendWord true s = .next (finished success dest u) := by
  rw [sendWord_selected s hfree, run_finish hrun hop henv hquiet]
  rfl

theorem sendWord_fault {s : State} {f : Fault} (hfree : engineFree s = true) (hrun : sdHandler s = .error (.fault f)) :
    sendWord true s = .fault f := by
  rw [sendWord_selected s hfree, hrun]
  rfl

/-! ### Searches (R272) -/

/-- The bytes before the one sought are dropped, a skipped one among them; those after it stay. -/
theorem scan_found {p : Byte → Bool} {skip : Bool} {skipped before rest : List Byte} {b : Byte}
    (hskip : skipped.length = skip.toNat) (hbefore : ∀ y ∈ before, p y = false) (hb : p b = true) :
    scan p skip (skipped ++ before ++ b :: rest) = (some b, false, rest) := by
  have hscan : scan p false (before ++ b :: rest) = (some b, false, rest) := by
    induction before with
    | nil => exact scan_head p b rest hb
    | cons y before ih =>
      rw [List.cons_append, scan_miss p y _ (hbefore y List.mem_cons_self)]
      exact ih fun z hz => hbefore z (List.mem_cons_of_mem _ hz)
  cases skip with
  | false =>
    obtain rfl := List.eq_nil_of_length_eq_zero hskip
    exact hscan
  | true =>
    obtain ⟨y, rfl⟩ := List.length_eq_one_iff.mp hskip
    exact hscan

/-- With nothing sought among them every byte is dropped; the byte to skip is still to come where none is retained. -/
theorem scan_none {p : Byte → Bool} {skip : Bool} {bytes : List Byte} (h : ∀ y ∈ bytes.drop skip.toNat, p y = false) :
    scan p skip bytes = (none, skip && bytes.isEmpty, []) := by
  have hscan : ∀ bytes : List Byte, (∀ y ∈ bytes, p y = false) → scan p false bytes = (none, false, []) := by
    intro bytes h
    induction bytes with
    | nil => rfl
    | cons y bytes ih =>
      rw [scan_miss p y _ (h y List.mem_cons_self)]
      exact ih fun z hz => h z (List.mem_cons_of_mem _ hz)
  cases skip with
  | false => exact hscan bytes h
  | true =>
    cases bytes with
    | nil => rfl
    | cons y bytes => exact hscan bytes h

theorem searchStep_found {p : Byte → Bool} {w : U32} {s : State} {b : Byte} {skip : Bool} {rest : List Byte}
    (h : scan p s.sd.rxSkip s.sd.rxRetain = (some b, skip, rest)) :
    searchStep p w s = (.found b, { s with sd := { s.sd with rxSkip := skip, rxRetain := rest } }) := by
  unfold searchStep
  rw [h]
  rfl

theorem expired_iff {now anchor window : U32} : expired now anchor window = true ↔ window < now - anchor := by
  rw [expired, elapsed, decide_eq_true_eq, BitVec.lt_def]

theorem expired_eq_false_iff {now anchor window : U32} : expired now anchor window = false ↔ now - anchor ≤ window := by
  rw [← Bool.not_eq_true, expired_iff, BitVec.not_lt]

/-- A search that no byte decides, past its window. -/
theorem searchStep_timeout {p : Byte → Bool} {w : U32} {s : State} {skip : Bool} {rest : List Byte}
    (h : scan p s.sd.rxSkip s.sd.rxRetain = (none, skip, rest)) (hexpired : w < s.env.now - s.sd.tAnchor) :
    searchStep p w s = (.timeout, { s with sd := { s.sd with rxSkip := skip, rxRetain := [] } }) := by
  have hexpired : expired s.env.now s.sd.tAnchor w = true := expired_iff.mpr hexpired
  unfold searchStep
  rw [h]
  dsimp only
  rw [State.onSd_env, State.onSd_sd, hexpired, if_pos rfl]
  rfl

/-- Within the window it clocks another chunk, or waits where the transport refuses it. -/
theorem searchStep_wait {p : Byte → Bool} {w : U32} {s : State} {skip : Bool} {rest : List Byte}
    (h : scan p s.sd.rxSkip s.sd.rxRetain = (none, skip, rest)) (hwithin : s.env.now - s.sd.tAnchor ≤ w) :
    searchStep p w s = (.wait,
      if s.env.submitOk then
        transacting (List.replicate s.cfg.respChunk 0xFF) .search { s with sd := { s.sd with rxSkip := skip, rxRetain := [] } }
      else { s with sd := { s.sd with rxSkip := skip, rxRetain := [] } }) := by
  have hwithin : expired s.env.now s.sd.tAnchor w = false := expired_eq_false_iff.mpr hwithin
  unfold searchStep
  rw [h]
  dsimp only
  rw [State.onSd_env, State.onSd_sd, hwithin, if_neg Bool.false_ne_true]
  unfold submit
  rw [State.onSd_env]
  cases s.env.submitOk <;> rfl

/-- `transmit`: the retained bytes are dropped; accepted, the transaction is pending and the handler's registers are written. -/
theorem transmit_eq (out : List Byte) (next : State → State) (s : State) :
    transmit out next s =
      if s.env.submitOk then next (transacting out .echo { s with sd := { s.sd with rxRetain := [] } })
      else { s with sd := { s.sd with rxRetain := [] } } := by
  rcases transmit_cases out next s with ⟨hok, e⟩ | ⟨hok, e⟩ <;> rw [e, hok] <;> rfl

end Sys2Proof.Machine
end

section
/-! The fifteen commands (30_encoding.md R131, 42_block_io.md section 3): the handler that executes each, its start, and its way to the card. -/

namespace Sys2Proof.Machine

/-! ### The handler of a command -/

/-- The handler in which the engine executes a command (R234, R285, R289, R290, R300, R301). -/
def commandRun (i : Instr) (s : State) : Ctl × State :=
  match i with
  | .cmd0 _ => initCmd0 s
  | .cmd1 _ => initCmd1 s
  | .cmd8 _ => initCmd8 s
  | .cmd9 _ => initCmd9 s
  | .cmd12 _ => abortPhase s
  | .cmd13 _ => wrStatus s
  | .cmd16 _ => initCmd16 s
  | .cmd17 _ _ => rdCmd s
  | .cmd18 _ _ => rdCmd s
  | .cmd24 _ _ => wrCmd s
  | .cmd25 _ _ => wrCmd s
  | .cmd55 _ => initCmd55 s
  | .acmd41 _ => initAcmd41 s
  | .cmd58 _ => initCmd58 s
  | .cmd59 _ _ => initCmd59 s
  | _ => (.yield, s)

/-- Where a command is selected its handler is the control tuple's. -/
theorem sdHandler_command {i : Instr} {s : State} (h : commandSelected i s = true) (hr : respMeaningless s = false) :
    sdHandler s = .ok (commandRun i s) := by
  have hinit : ∀ {st : InitStep}, atInit st s = true → sdHandler s = initHandler s ∧ s.sd.initStep = st := fun h =>
    ⟨sdHandler_init (atInit_iff.mp h).1 hr, (atInit_iff.mp h).2⟩
  have hread : ∀ {p : OpPhase}, atPhase .read p s = true → sdHandler s = readHandler s ∧ s.sd.opPhase = p := fun h =>
    ⟨sdHandler_atRead h hr, (atPhase_iff.mp h).2.2⟩
  have hwrite : ∀ {p : OpPhase}, atPhase .write p s = true → sdHandler s = writeHandler s ∧ s.sd.opPhase = p := fun h =>
    ⟨sdHandler_atWrite h hr, (atPhase_iff.mp h).2.2⟩
  cases i
  case cmd0 | cmd1 | cmd8 | cmd9 | cmd16 | cmd55 | acmd41 | cmd58 =>
    obtain ⟨e, hstep⟩ := hinit h
    rw [e, initHandler, hstep]
    rfl
  case cmd59 =>
    obtain ⟨e, hstep⟩ := hinit (Bool.and_eq_true_iff.mp h).1
    rw [e, initHandler, hstep]
    rfl
  case cmd12 =>
    rcases Bool.or_eq_true_iff.mp h with h | h
    · obtain ⟨e, hphase⟩ := hread h
      rw [e, readHandler, hphase]
      rfl
    · obtain ⟨e, hphase⟩ := hwrite h
      rw [e, writeHandler, hphase]
      rfl
  case cmd13 =>
    obtain ⟨e, hphase⟩ := hwrite h
    rw [e, writeHandler, hphase]
    rfl
  case cmd17 | cmd18 =>
    obtain ⟨e, hphase⟩ := hread (Bool.and_eq_true_iff.mp (Bool.and_eq_true_iff.mp h).1).1
    rw [e, readHandler, hphase]
    rfl
  case cmd24 | cmd25 =>
    obtain ⟨e, hphase⟩ := hwrite (Bool.and_eq_true_iff.mp (Bool.and_eq_true_iff.mp h).1).1
    rw [e, writeHandler, hphase]
    rfl
  all_goals cases h

/-- A command's frame, its CRC right, is the word of the handler that executes it (log 7). -/
theorem exec_command {i : Instr} {s : State} (h : commandSelected i s = true) (hcrc : frameCrcOk i = true) : exec i s = sendWord true s := by
  have hsend : ∀ {selected matches' : Bool}, selected = true → matches' = true → sendWord (selected && matches') s = sendWord true s := by
    rintro _ _ rfl rfl
    rfl
  cases i
  case cmd0 | cmd1 | cmd8 | cmd9 | cmd13 | cmd16 | cmd17 | cmd18 | cmd24 | cmd25 | cmd55 | acmd41 | cmd58 => exact hsend h hcrc
  case cmd12 =>
    refine hsend ?_ hcrc
    rw [sendsStop, Bool.or_eq_true]
    exact .inl h
  case cmd59 u crc =>
    obtain ⟨hstep, hu⟩ := Bool.and_eq_true_iff.mp h
    refine hsend ?_ hcrc
    rw [Bool.and_eq_true, beq_iff_eq]
    refine ⟨hstep, ?_⟩
    rw [beq_iff_eq.mp hu]
    cases s.cfg.useCrc <;> rfl
  all_goals cases h

theorem executing_iff {i : Instr} {ph : CmdPh} {s : State} : executing i ph s = true ↔
    commandSelected i s = true ∧ frameCrcOk i = true ∧ engineFree s = true ∧ s.sd.cmdPh = ph ∧ s.env.cbQueue = none := by
  simp [executing, and_assoc]

/-- A sub-state of the execution that is neither its beginning nor its end. -/
def midCommand (ph : CmdPh) : Prop := ph ≠ .idle ∧ ph ≠ .done

/-- Between its beginning and its end every command is the execution sub-machine's (R281-R283). -/
theorem commandRun_mid {i : Instr} {s : State} (h : commandSelected i s = true) (hmid : midCommand s.sd.cmdPh) :
    commandRun i s = cmdStep s := by
  obtain ⟨hidle, hdone⟩ := hmid
  have hinit : ∀ (idx : BitVec 6) (arg : U32) (rtype : RType) (preBusy : Bool) (first : InitStep) (keep : State → Bool)
      (eval : State → State), initCommand idx arg rtype preBusy first keep eval s = cmdStep s := by
    intros
    unfold initCommand
    split <;> first | rfl | contradiction
  have hop : ∀ (single multi : BitVec 6) (accepted : State → State), opCommandPhase single multi accepted s = cmdStep s := by
    intros
    unfold opCommandPhase
    split <;> first | rfl | contradiction
  cases i
  case cmd0 | cmd1 | cmd8 | cmd9 | cmd16 | cmd55 | acmd41 | cmd58 | cmd59 => exact hinit ..
  case cmd17 | cmd18 =>
    show rdCmd s = _
    exact hop ..
  case cmd24 | cmd25 =>
    show wrCmd s = _
    exact hop ..
  case cmd12 =>
    show abortPhase s = _
    unfold abortPhase
    split <;> first | rfl | contradiction
  case cmd13 =>
    show wrStatus s = _
    unfold wrStatus
    split <;> first | rfl | contradiction
  all_goals cases h

/-- A command under way: its word runs one rule of the execution sub-machine. -/
theorem exec_mid {i : Instr} {ph : CmdPh} {s t : State} {c : Ctl} (h : executing i ph s = true) (hmid : midCommand ph)
    (hrun : cmdStep s = (c, t)) (hqueue : t.env.cbQueue = s.env.cbQueue) : exec i s = .next t := by
  obtain ⟨hsel, hcrc, hfree, hph, hnone⟩ := executing_iff.mp h
  have hr : respMeaningless s = false := respMeaningless_of_ne_done (by rw [hph]; exact hmid.2)
  rw [exec_command hsel hcrc]
  refine sendWord_quiet (c := c) hfree ?_ hqueue hnone
  rw [sdHandler_command hsel hr, commandRun_mid hsel (by rw [hph]; exact hmid), hrun]

/-! ### The start of a command -/

/-- At the beginning every handler starts its command with the tables' operands (R131, R132, R273). -/
theorem commandRun_idle {i : Instr} {index : BitVec 6} {argument : U32} {crc : BitVec 7} {s : State} (h : commandSelected i s = true)
    (hidle : s.sd.cmdPh = .idle) (hi : commandOf i = some (index, argument, crc)) :
    commandRun i s = (.again, startCmd index argument (commandResponse i) (!skipsBusyPoll i) s) := by
  have hinit : ∀ (idx : BitVec 6) (arg : U32) (rtype : RType) (preBusy : Bool) (first : InitStep) (keep : State → Bool)
      (eval : State → State), initCommand idx arg rtype preBusy first keep eval s = (.again, startCmd idx arg rtype preBusy s) := by
    intros
    rw [initCommand, hidle]
  have hop : ∀ (single multi : BitVec 6) (accepted : State → State), opCommandPhase single multi accepted s =
      (.again, startCmd (if s.op.count = 1 then single else multi) (cardArg s.sd.blockAddr s.op.addr) .r1 true s) := by
    intros
    rw [opCommandPhase, hidle]
  cases i
  case cmd0 | cmd1 | cmd8 | cmd9 | cmd16 | cmd55 | acmd41 | cmd58 =>
    cases hi
    exact hinit ..
  case cmd59 u c =>
    cases hi
    obtain ⟨_, hu⟩ := Bool.and_eq_true_iff.mp h
    have harg : cmd59Arg s.cfg.useCrc = u.setWidth 32 := by
      rw [beq_iff_eq.mp hu]
      cases s.cfg.useCrc <;> rfl
    exact (hinit ..).trans (by rw [harg]; rfl)
  case cmd17 a c | cmd24 a c =>
    cases hi
    obtain ⟨hphase, harg⟩ := Bool.and_eq_true_iff.mp h
    have hcount := beq_iff_eq.mp (Bool.and_eq_true_iff.mp hphase).2
    dsimp only [commandRun, rdCmd, wrCmd]
    rw [hop, if_pos hcount, beq_iff_eq.mp harg]
    rfl
  case cmd18 a c | cmd25 a c =>
    cases hi
    obtain ⟨hphase, harg⟩ := Bool.and_eq_true_iff.mp h
    have hcount := bne_iff_ne.mp (Bool.and_eq_true_iff.mp hphase).2
    dsimp only [commandRun, rdCmd, wrCmd]
    rw [hop, if_neg hcount, beq_iff_eq.mp harg]
    rfl
  case cmd12 =>
    cases hi
    show abortPhase s = _
    rw [abortPhase, hidle]
    rfl
  case cmd13 =>
    cases hi
    show wrStatus s = _
    rw [wrStatus, hidle]
    rfl
  all_goals cases hi

/-- What a start records (R280). -/
theorem startCmd_eq (index : BitVec 6) (argument : U32) (rtype : RType) (preBusy : Bool) (s : State) :
    startCmd index argument rtype preBusy s = { s with sd := { s.sd with
      cmdIdx := index, cmdArg := argument, cmdRtype := rtype, cmdPreBusy := preBusy, respGot := 0
      cmdPh := if s.sd.session = false then .opening else if preBusy = false then .marshal else .busy
      tAnchor := if s.sd.session = true ∧ preBusy = true then s.env.now else s.sd.tAnchor } } := by
  unfold startCmd
  dsimp only [State.onSd_sd, State.onSd_env]
  rcases Bool.eq_false_or_eq_true s.sd.session with h | h <;> cases preBusy <;> simp [h, State.onSd]

/-- Settles O35: every handler at its beginning starts its command. -/
theorem commandStarts : Obligations.CommandStarts := by
  intro s i index argument crc h hi
  obtain ⟨hsel, hcrc, hfree, hph, hnone⟩ := executing_iff.mp h
  have hr : respMeaningless s = false := respMeaningless_of_ne_done (by rw [hph]; decide)
  have hrun : sdHandler s = .ok (.again, startCmd index argument (commandResponse i) (!skipsBusyPoll i) s) := by
    rw [sdHandler_command hsel hr, commandRun_idle hsel hph hi]
  rw [startCmd_eq] at hrun
  rw [exec_command hsel hcrc, sendWord_quiet hfree hrun rfl hnone]
  cases skipsBusyPoll i <;> simp

/-! ### The way to the card -/

theorem cmdOpen_eq (s : State) : cmdOpen s =
    if s.env.openOk then (.again, { s with sd := { s.sd with
      session := true, rxRetain := [], rxSkip := false, cmdPh := if s.sd.cmdPreBusy then .busy else .marshal
      tAnchor := if s.sd.cmdPreBusy then s.env.now else s.sd.tAnchor } })
    else (.yield, s) := by
  unfold cmdOpen
  rcases openSession_cases s with ⟨hok, e⟩ | ⟨hok, e⟩
  · rw [e, hok]
    rcases Bool.eq_false_or_eq_true s.sd.cmdPreBusy with hbusy | hbusy <;> simp [hbusy, State.onSd]
  · rw [e, hok]
    rfl

/-- The six bytes of a frame, as a list. -/
theorem toList_frameVector (idx : BitVec 6) (arg : U32) : (frameVector idx arg).toList = buildCommandBytes idx arg := by
  unfold frameVector
  rw [Vector.toList_ofFn]
  rfl

/-- The frame built is the command's encoding, where its CRC is right (R205, R207). -/
theorem buildCommandBytes_eq_encode {i : Instr} {index : BitVec 6} {argument : U32} {crc : BitVec 7} (hi : commandOf i = some (index, argument, crc))
    (hcrc : frameCrcOk i = true) : buildCommandBytes index argument = encode i := by
  rw [encode_of_commandOf hi]
  unfold frameCrcOk at hcrc
  rw [hi] at hcrc
  rw [beq_iff_eq.mp hcrc]
  rfl

theorem cmdSend_eq (s : State) : cmdSend s = (.yield,
    if s.env.submitOk then
      { s with
        sd := { s.sd with
          rxRetain := [], xferPending := true, xferOut := s.sd.cmdBuf.toList, xferInLen := 6, xferRole := .echo, cmdPh := .resp
          tAnchor := s.env.now, rxSkip := s.sd.rxSkip || s.sd.cmdIdx == 12 }
        env := { s.env with done := false } }
    else { s with sd := { s.sd with rxRetain := [] } }) := by
  have hlength : s.sd.cmdBuf.toList.length = 6 := s.sd.cmdBuf.length_toList
  unfold cmdSend
  rw [transmit_eq]
  cases s.env.submitOk
  · rfl
  · simp only [if_true, transacting, hlength]
    rfl

/-- The busy-poll of a command (R282): the ready byte first, or none. -/
theorem cmdBusy_cases {s : State} (hskip : s.sd.rxSkip = false) :
    (∀ rest, s.sd.rxRetain = 0xFF :: rest → cmdBusy s = (.again, { s with sd := { s.sd with rxRetain := rest, cmdPh := .marshal } })) ∧
    (s.sd.rxRetain = [] → s.cfg.busyTimeoutMs < s.env.now - s.sd.tAnchor →
      cmdBusy s = (.again, { s with sd := { s.sd with cmdOut := .busyTimeout, cmdPh := .done } })) ∧
    (s.sd.rxRetain = [] → s.env.now - s.sd.tAnchor ≤ s.cfg.busyTimeoutMs → s.env.submitOk = true →
      cmdBusy s = (.yield, transacting (List.replicate s.cfg.respChunk 0xFF) .search s)) := by
  have hnone : s.sd.rxRetain = [] → scan isReady s.sd.rxSkip s.sd.rxRetain = (none, s.sd.rxSkip, s.sd.rxRetain) := fun h => by
    rw [h, scan_nil]
  have hsame : s.sd.rxRetain = [] → { s with sd := { s.sd with rxSkip := s.sd.rxSkip, rxRetain := [] } } = s := fun h => by
    rw [← h]
  refine ⟨fun rest h => ?_, fun h hexpired => ?_, fun h hwithin hok => ?_⟩
  · have hscan : scan isReady s.sd.rxSkip s.sd.rxRetain = (some 0xFF, s.sd.rxSkip, rest) := by
      rw [hskip, h]
      exact scan_head isReady 0xFF rest rfl
    rw [cmdBusy, searchStep_found hscan]
    rfl
  · rw [cmdBusy, searchStep_timeout (hnone h) hexpired, hsame h]
    rfl
  · rw [cmdBusy, searchStep_wait (hnone h) hwithin, hok, hsame h]
    rfl

/-- Settles O36: one rule of the execution sub-machine for each sub-state. -/
theorem commandIsSent : Obligations.CommandIsSent := by
  intro s i index argument crc hi
  refine ⟨fun h => ?_, fun h hskip => ?_, fun h hidx harg => ?_, fun h hbuf hidx => ?_⟩
  · have hmid : midCommand .opening := ⟨nofun, nofun⟩
    have hstep : cmdStep s = cmdOpen s := by rw [cmdStep, (executing_iff.mp h).2.2.2.1]
    rw [cmdOpen_eq] at hstep
    refine ⟨fun hok => ?_, fun hok => ?_⟩ <;> rw [hok] at hstep <;> exact exec_mid h hmid hstep rfl
  · have hmid : midCommand .busy := ⟨nofun, nofun⟩
    have hstep : cmdStep s = cmdBusy s := by rw [cmdStep, (executing_iff.mp h).2.2.2.1]
    obtain ⟨hready, htimeout, hchunk⟩ := cmdBusy_cases hskip
    exact ⟨fun rest hr => exec_mid h hmid (hstep.trans (hready rest hr)) rfl,
      fun hr hexpired => exec_mid h hmid (hstep.trans (htimeout hr hexpired)) rfl,
      fun hr hwithin hok => exec_mid h hmid (hstep.trans (hchunk hr hwithin hok)) rfl⟩
  · have hmid : midCommand .marshal := ⟨nofun, nofun⟩
    have hstep : cmdStep s = cmdMarshal s := by rw [cmdStep, (executing_iff.mp h).2.2.2.1]
    refine ⟨_, exec_mid h hmid hstep rfl, ?_, rfl⟩
    show (frameVector s.sd.cmdIdx s.sd.cmdArg).toList = _
    rw [toList_frameVector, hidx, harg, buildCommandBytes_eq_encode hi (executing_iff.mp h).2.1]
  · have hmid : midCommand .send := ⟨nofun, nofun⟩
    have hstep : cmdStep s = cmdSend s := by rw [cmdStep, (executing_iff.mp h).2.2.2.1]
    rw [cmdSend_eq, hbuf, hidx] at hstep
    refine ⟨fun hok => ?_, fun hok => ?_⟩ <;> rw [hok] at hstep <;> exact exec_mid h hmid hstep rfl

end Sys2Proof.Machine
end

section
/-! What the engine makes of a command's end: the steps of initialisation (41_card_init.md sections 1, 2) and the phases of an operation
(42_block_io.md sections 4, 5). -/

namespace Sys2Proof.Machine

/-! ### The handler of a command that has ended -/

/-- A handler examines no more than its command's response. -/
theorem respExamined_le {i : Instr} {s : State} (h : commandSelected i s = true) :
    respExamined s ≤ responseLength (commandResponse i) := by
  have hinit : ∀ {st : InitStep}, atInit st s = true → s.sd.state = .init ∧ s.sd.initStep = st := atInit_iff.mp
  have hphase : ∀ {st : SdState} {p : OpPhase}, atPhase st p s = true → s.sd.state = st ∧ s.sd.opPhase = p := fun h =>
    ⟨(atPhase_iff.mp h).1, (atPhase_iff.mp h).2.2⟩
  unfold respExamined
  cases i
  case cmd0 | cmd1 | cmd8 | cmd9 | cmd16 | cmd55 | acmd41 | cmd58 =>
    obtain ⟨hstate, hstep⟩ := hinit h
    rw [hstate, hstep]
    exact Nat.le_refl _
  case cmd59 =>
    obtain ⟨hstate, hstep⟩ := hinit (Bool.and_eq_true_iff.mp h).1
    rw [hstate, hstep]
    exact Nat.le_refl _
  case cmd12 =>
    rcases Bool.or_eq_true_iff.mp h with h | h
    all_goals
      obtain ⟨hstate, hop⟩ := hphase h
      rw [hstate, hop]
      exact Nat.zero_le _
  case cmd13 =>
    obtain ⟨hstate, hop⟩ := hphase h
    rw [hstate, hop]
    exact Nat.le_refl _
  case cmd17 | cmd18 | cmd24 | cmd25 =>
    obtain ⟨hstate, hop⟩ := hphase (Bool.and_eq_true_iff.mp (Bool.and_eq_true_iff.mp h).1).1
    rw [hstate, hop]
    exact Nat.le_refl _
  all_goals cases h

/-- But an abort, which examines nothing (R289, R301), every handler examines the whole response. -/
theorem respExamined_eq {i : Instr} {s : State} (h : commandSelected i s = true) (hstop : ∀ crc, i ≠ .cmd12 crc) :
    respExamined s = responseLength (commandResponse i) := by
  unfold respExamined
  cases i
  case cmd0 | cmd1 | cmd8 | cmd9 | cmd16 | cmd55 | acmd41 | cmd58 =>
    obtain ⟨hstate, hstep⟩ := atInit_iff.mp h
    rw [hstate, hstep]
    rfl
  case cmd59 =>
    obtain ⟨hstate, hstep⟩ := atInit_iff.mp (Bool.and_eq_true_iff.mp h).1
    rw [hstate, hstep]
    rfl
  case cmd12 crc => exact absurd rfl (hstop crc)
  case cmd13 =>
    obtain ⟨hstate, _, hop⟩ := atPhase_iff.mp h
    rw [hstate, hop]
    rfl
  case cmd17 | cmd18 | cmd24 | cmd25 =>
    obtain ⟨hstate, _, hop⟩ := atPhase_iff.mp (Bool.and_eq_true_iff.mp (Bool.and_eq_true_iff.mp h).1).1
    rw [hstate, hop]
    rfl
  all_goals cases h

theorem respMeaningless_of_out {s : State} (h : s.sd.cmdOut ≠ .ok) : respMeaningless s = false := by
  have hout : (s.sd.cmdOut == CmdOut.ok) = false := beq_eq_false_iff_ne.mpr h
  rw [respMeaningless, hout, Bool.and_false, Bool.false_and]

/-- A response that is not there is not examined (R63; log 17). -/
theorem exec_unanswered {i : Instr} {s : State} (h : executing i .done s = true) (hstop : ∀ crc, i ≠ .cmd12 crc)
    (hout : s.sd.cmdOut = .ok) (hgot : s.sd.respGot < responseLength (commandResponse i)) : exec i s = .fault .meaninglessRead := by
  obtain ⟨hsel, hcrc, hfree, hph, _⟩ := executing_iff.mp h
  have hmeaningless : respMeaningless s = true := by
    rw [respMeaningless, hph, hout, respExamined_eq hsel hstop, decide_eq_true hgot]
    rfl
  rw [exec_command hsel hcrc]
  refine sendWord_fault hfree ?_
  rw [sdHandler, hmeaningless]
  rfl

/-- A command's word at its end runs its handler there. -/
theorem exec_done {i : Instr} {s t : State} {c : Ctl} (h : executing i .done s = true) (hr : respMeaningless s = false)
    (hrun : commandRun i s = (c, t)) (hqueue : t.env.cbQueue = s.env.cbQueue) : exec i s = .next t := by
  obtain ⟨hsel, hcrc, hfree, _, hnone⟩ := executing_iff.mp h
  rw [exec_command hsel hcrc]
  refine sendWord_quiet (c := c) hfree ?_ hqueue hnone
  rw [sdHandler_command hsel hr, hrun]

theorem exec_done_finish {i : Instr} {s u : State} {c : Ctl} {success : Bool} {dest : SdState} (h : executing i .done s = true)
    (hr : respMeaningless s = false) (hrun : commandRun i s = (c, finish success dest u)) (hop : u.op.cb = s.op.cb)
    (henv : u.env.cbScript = s.env.cbScript) (hquiet : quietClient s = true) : exec i s = .next (finished success dest u) := by
  obtain ⟨hsel, hcrc, hfree, _, _⟩ := executing_iff.mp h
  rw [exec_command hsel hcrc]
  refine sendWord_finish (c := c) hfree ?_ hop henv hquiet
  rw [sdHandler_command hsel hr, hrun]

theorem answered_iff {i : Instr} {s : State} : answered i s = true ↔
    executing i .done s = true ∧ s.sd.cmdOut = .ok ∧ responseLength (commandResponse i) ≤ s.sd.respGot := by
  simp [answered, and_assoc]

theorem answered_meaningful {i : Instr} {s : State} (h : answered i s = true) : respMeaningless s = false := by
  obtain ⟨hexec, _, hgot⟩ := answered_iff.mp h
  exact respMeaningless_of_got ((respExamined_le (executing_iff.mp hexec).1).trans hgot)

/-! ### The steps of initialisation -/

/-- The command's sub-state idle, its session closed unless it is kept (R234). -/
def commandLeft (kept : Bool) (s : State) : State := s.onSd fun d => { d with session := kept && d.session, cmdPh := .idle }

theorem commandLeft_false (s : State) : commandLeft false s = commandEnded s := rfl

theorem initCommand_timeout {idx : BitVec 6} {arg : U32} {rtype : RType} {preBusy : Bool} {first : InitStep} {keep : State → Bool}
    {eval : State → State} {s : State} (hdone : s.sd.cmdPh = .done) (hout : s.sd.cmdOut = .timeout) (hkeep : keep s = false) :
    initCommand idx arg rtype preBusy first keep eval s = (.again, stepFailed first .cmdTimeout (commandEnded s)) := by
  rw [initCommand, hdone]
  dsimp only [State.onSd_sd]
  rw [hout, hkeep]
  dsimp only
  rw [initFail_eq_stepFailed]
  rfl

theorem initCommand_busyTimeout {idx : BitVec 6} {arg : U32} {rtype : RType} {preBusy : Bool} {first : InitStep} {keep : State → Bool}
    {eval : State → State} {s : State} (hdone : s.sd.cmdPh = .done) (hout : s.sd.cmdOut = .busyTimeout) (hkeep : keep s = false) :
    initCommand idx arg rtype preBusy first keep eval s = (.again, stepFailed first .busyTimeout (commandEnded s)) := by
  rw [initCommand, hdone]
  dsimp only [State.onSd_sd]
  rw [hout, hkeep]
  dsimp only
  rw [initFail_eq_stepFailed]
  rfl

theorem initCommand_ok {idx : BitVec 6} {arg : U32} {rtype : RType} {preBusy : Bool} {first : InitStep} {keep : State → Bool}
    {eval : State → State} {s : State} (hdone : s.sd.cmdPh = .done) (hout : s.sd.cmdOut = .ok) :
    initCommand idx arg rtype preBusy first keep eval s =
      (.again, eval (commandLeft (keep s) s)) := by
  rw [initCommand, hdone]
  dsimp only [State.onSd_sd]
  rw [hout]
  dsimp only
  rfl

theorem cmd9Accepted_eq_false {s : State} (h : s.sd.cmdOut ≠ .ok) : cmd9Accepted s = false := by
  rw [cmd9Accepted, beq_eq_false_iff_ne.mpr h, Bool.false_and]

/-- A time-out fails the step that the command belongs to (R232, R234). -/
theorem commandRun_initTimeout {i : Instr} {s : State} (h : commandSelected i s = true) (hinit : s.sd.state = .init)
    (hdone : s.sd.cmdPh = .done) :
    (s.sd.cmdOut = .timeout → commandRun i s = (.again, stepFailed (firstOfStep i) .cmdTimeout (commandEnded s))) ∧
    (s.sd.cmdOut = .busyTimeout → commandRun i s = (.again, stepFailed (firstOfStep i) .busyTimeout (commandEnded s))) := by
  have hphase : ∀ {st : SdState} {p : OpPhase}, st ≠ .init → atPhase st p s ≠ true := fun hst h =>
    hst ((atPhase_iff.mp h).1.symm.trans hinit)
  cases i
  case cmd0 | cmd1 | cmd8 | cmd16 | cmd55 | acmd41 | cmd58 | cmd59 =>
    exact ⟨fun hout => initCommand_timeout hdone hout rfl, fun hout => initCommand_busyTimeout hdone hout rfl⟩
  case cmd9 =>
    exact ⟨fun hout => initCommand_timeout hdone hout (cmd9Accepted_eq_false (by rw [hout]; decide)),
      fun hout => initCommand_busyTimeout hdone hout (cmd9Accepted_eq_false (by rw [hout]; decide))⟩
  case cmd12 =>
    rcases Bool.or_eq_true_iff.mp h with h | h
    · exact absurd h (hphase (by decide))
    · exact absurd h (hphase (by decide))
  case cmd13 => exact absurd h (hphase (by decide))
  case cmd17 | cmd18 | cmd24 | cmd25 =>
    exact absurd (Bool.and_eq_true_iff.mp (Bool.and_eq_true_iff.mp h).1).1 (hphase (by decide))
  all_goals cases h

theorem r1IsIllegal_iff {b : Byte} : r1IsIllegal b = true ↔ b &&& 0x04 ≠ 0 := bne_iff_ne

theorem r1HasError_iff {b : Byte} : r1HasError b = true ↔ b &&& 0x7E ≠ 0 := bne_iff_ne

/-- A refused R1: the illegal bit makes the card unusable, any other refusal fails the step (R246). -/
def refusedR1 (first : InitStep) (s : State) : State :=
  if respByte s 0 &&& 0x04 ≠ 0 then { s with sd := { s.sd with lastErr := .illegalCmd, state := .unusable } }
  else stepFailed first .r1Error s

theorem acceptR1_good {good : Byte → Bool} {first : InitStep} {next : State → State} {s : State} (h : good (respByte s 0) = true) :
    acceptR1 good first next s = next s := by
  rw [acceptR1, if_pos h]

theorem acceptR1_refused {good : Byte → Bool} {first : InitStep} {next : State → State} {s : State} (h : good (respByte s 0) = false) :
    acceptR1 good first next s = refusedR1 first s := by
  rw [acceptR1, if_neg (by rw [h]; decide), refusedR1, initFail_eq_stepFailed]
  exact if_congr r1IsIllegal_iff rfl rfl

/-- The steps that pass on an R1 without an error bit (R238, R239). -/
theorem acceptR1_noError (first : InitStep) (next : State → State) (s : State) :
    acceptR1 (fun b => !r1HasError b) first next s = if respByte s 0 &&& 0x7E = 0 then next s else refusedR1 first s := by
  split
  next h =>
    refine acceptR1_good ?_
    rw [Bool.not_eq_true', ← Bool.not_eq_true, r1HasError_iff]
    exact not_not_intro h
  next h =>
    refine acceptR1_refused ?_
    rw [Bool.not_eq_false', r1HasError_iff]
    exact h

/-- The steps that pass on an R1 of 0 (R242, R243, R245). -/
theorem acceptR1_zero (first : InitStep) (next : State → State) (s : State) :
    acceptR1 (fun b => b == 0) first next s = if respByte s 0 ≠ 0 then refusedR1 first s else next s := by
  split
  next h => exact acceptR1_refused (beq_eq_false_iff_ne.mpr h)
  next h => exact acceptR1_good (beq_iff_eq.mpr (not_not.mp h))

/-- Bit 6 of `RESP[1]` and bits 4 and 5 of `RESP[2]` are the OCR's bits 30, 20 and 21 (R137, R138). -/
theorem getLsbD_ocrOf (s : State) : (ocrOf s).getLsbD 30 = (respByte s 1).getLsbD 6 ∧
    (ocrOf s).getLsbD 20 = (respByte s 2).getLsbD 4 ∧ (ocrOf s).getLsbD 21 = (respByte s 2).getLsbD 5 := by
  refine ⟨?_, ?_, ?_⟩ <;> simp only [ocrOf, be32, pack32, BitVec.getLsbD_append] <;> rfl

theorem loopExpired_eq (s : State) : loopExpired s = s.cfg.initLoopTimeoutMs.any fun w => w < s.env.now - s.sd.tLoop := by
  unfold loopExpired
  cases s.cfg.initLoopTimeoutMs with
  | none => rfl
  | some w => rfl

/-- An answered command of a step that keeps no session is evaluated with it closed (R234). -/
theorem exec_answered {i : Instr} {s t : State} {idx : BitVec 6} {arg : U32} {rtype : RType} {preBusy : Bool} {first : InitStep}
    {eval : State → State} (h : answered i s = true) (hrun : commandRun i s = initCommand idx arg rtype preBusy first keepNone eval s)
    (heval : eval (commandEnded s) = t) (hqueue : t.env.cbQueue = s.env.cbQueue) : exec i s = .next t := by
  obtain ⟨hexec, hout, _⟩ := answered_iff.mp h
  refine exec_done (c := .again) hexec (answered_meaningful h) ?_ hqueue
  rw [hrun, initCommand_ok (executing_iff.mp hexec).2.2.2.1 hout, ← heval]
  rfl

theorem refusedR1_env (first : InitStep) (s : State) : (refusedR1 first s).env = s.env := by
  unfold refusedR1
  split <;> rfl

theorem evalCmd0_eq (s : State) : evalCmd0 s = if respByte s 0 = 0x01 then initOk .cmd8 s else stepFailed .cmd0 .r1Error s := by
  rw [evalCmd0, initFail_eq_stepFailed]

theorem evalCmd8_eq (s : State) : evalCmd8 s =
    if respByte s 0 &&& 0x04 ≠ 0 then initOk .cmd1 { s with sd := { s.sd with cardV2 := false, tLoop := s.env.now } }
    else if respByte s 0 &&& 0x7E ≠ 0 then stepFailed .cmd8 .r1Error s
    else if respByte s 4 ≠ 0xAA then stepFailed .cmd8 .checkPattern s
    else initOk .cmd59 { s with sd := { s.sd with cardV2 := true } } := by
  unfold evalCmd8
  simp only [r1IsIllegal_iff, r1HasError_iff, initFail_eq_stepFailed]
  rfl

theorem evalInitLoop_eq (restart : InitStep) (s : State) : evalInitLoop restart s =
    if respByte s 0 = 0x00 then initOk .cmd58 s
    else if respByte s 0 = 0x01 then
      if s.cfg.initLoopTimeoutMs.any fun w => w < s.env.now - s.sd.tLoop then
        { s with sd := { s.sd with lastErr := .initLoopTimeout, state := .failed } }
      else { s with sd := { s.sd with initStep := restart } }
    else refusedR1 restart s := by
  unfold evalInitLoop refusedR1
  simp only [r1IsIllegal_iff, initFail_eq_stepFailed, loopExpired_eq]
  rfl

/-- The OCR decides: neither 3.3 V range makes the card unusable, and the CCS bit counts on a version-2 card (R242). -/
theorem evalCmd58_eq (s : State) : evalCmd58 s =
    if respByte s 0 ≠ 0x00 then refusedR1 .cmd58 s
    else if (respByte s 2).getLsbD 4 = false ∧ (respByte s 2).getLsbD 5 = false then
      { s with sd := { s.sd with lastErr := .voltage, state := .unusable } }
    else initOk .cmd9 { s with sd := { s.sd with blockAddr := s.sd.cardV2 && (respByte s 1).getLsbD 6 } } := by
  obtain ⟨hccs, hlow, hhigh⟩ := getLsbD_ocrOf s
  rw [evalCmd58, acceptR1_zero, ocrVoltageOk, ocrCcs, hccs, hlow, hhigh]
  refine if_congr Iff.rfl rfl ?_
  cases (respByte s 2).getLsbD 4 <;> cases (respByte s 2).getLsbD 5 <;> rfl

/-- CMD9 accepted: its session is kept and the CSD read begins in it (R234, R243). -/
theorem initCmd9_accepted {s : State} (hdone : s.sd.cmdPh = .done) (hout : s.sd.cmdOut = .ok) (hr : respByte s 0 = 0) :
    initCmd9 s = (.again, { s with
      sd := { s.sd with cmdPh := .idle, initStep := .csd, opPhase := .rdToken, tAnchor := s.env.now }
      op := { s.op with len := 16 } }) := by
  have hkeep : cmd9Accepted s = true := by rw [cmd9Accepted, hout, hr]; rfl
  have hleft : ¬respByte (commandLeft true s) 0 ≠ 0x00 := not_not_intro hr
  rw [initCmd9, initCommand_ok hdone hout, hkeep, evalCmd9, acceptR1_zero, if_neg hleft]
  rfl

theorem initCmd9_refused {s : State} (hdone : s.sd.cmdPh = .done) (hout : s.sd.cmdOut = .ok) (hr : respByte s 0 ≠ 0) :
    initCmd9 s = (.again, refusedR1 .cmd9 (commandEnded s)) := by
  have hkeep : cmd9Accepted s = false := by rw [cmd9Accepted, beq_eq_false_iff_ne.mpr hr, Bool.and_false]
  have hleft : respByte (commandLeft false s) 0 ≠ 0x00 := hr
  rw [initCmd9, initCommand_ok hdone hout, hkeep, evalCmd9, acceptR1_zero, if_pos hleft, commandLeft_false]

/-- Settles O38: a time-out, an unanswered command, and the evaluation of each command. -/
theorem initCommandsEvaluated : Obligations.InitCommandsEvaluated := by
  refine ⟨fun s i h hinit => ?_, fun s crc u => ?_⟩
  · obtain ⟨hsel, _, _, hdone, _⟩ := executing_iff.mp h
    obtain ⟨htimeout, hbusy⟩ := commandRun_initTimeout hsel hinit hdone
    have hstop : ∀ crc, i ≠ .cmd12 crc := by
      rintro crc rfl
      rcases Bool.or_eq_true_iff.mp hsel with hsel | hsel
      all_goals
        have hstate := (atPhase_iff.mp hsel).1
        rw [hinit] at hstate
        cases hstate
    refine ⟨fun hout => ?_, fun hout => ?_, fun hout hgot => exec_unanswered h hstop hout hgot⟩
    · exact exec_done h (respMeaningless_of_out (by rw [hout]; decide)) (htimeout hout) rfl
    · exact exec_done h (respMeaningless_of_out (by rw [hout]; decide)) (hbusy hout) rfl
  · intro r c illegal passed
    have hrefused : ∀ first, (refusedR1 first c).env = s.env := fun first => refusedR1_env first c
    refine ⟨fun h => ?_, fun h => ?_, fun h => ?_, fun h => ?_, fun i restart hi h => ?_, fun h => ?_, fun h => ?_, fun h => ?_⟩
    · refine exec_answered h rfl (evalCmd0_eq _) ?_
      split <;> rfl
    · refine exec_answered h rfl (evalCmd8_eq _) ?_
      split
      · rfl
      · split
        · rfl
        · split <;> rfl
    · refine exec_answered h rfl (acceptR1_noError ..) ?_
      split
      · rfl
      · exact congrArg Env.cbQueue (hrefused _)
    · refine exec_answered h rfl (acceptR1_noError ..) ?_
      split
      · rfl
      · exact congrArg Env.cbQueue (hrefused _)
    · have hloop : ((evalInitLoop restart c).env).cbQueue = s.env.cbQueue := by
        rw [evalInitLoop_eq]
        split
        · rfl
        · split
          · split <;> rfl
          · exact congrArg Env.cbQueue (hrefused _)
      rw [evalInitLoop_eq] at hloop
      rcases hi with ⟨rfl, rfl⟩ | ⟨rfl, rfl⟩
      · exact exec_answered h rfl (evalInitLoop_eq _ _) hloop
      · exact exec_answered h rfl (evalInitLoop_eq _ _) hloop
    · refine exec_answered h rfl (evalCmd58_eq _) ?_
      split
      · exact congrArg Env.cbQueue (hrefused _)
      · split <;> rfl
    · obtain ⟨hexec, hout, _⟩ := answered_iff.mp h
      have hdone := (executing_iff.mp hexec).2.2.2.1
      split
      next hr => exact exec_done hexec (answered_meaningful h) (initCmd9_refused hdone hout hr) (congrArg Env.cbQueue (hrefused _))
      next hr => exact exec_done hexec (answered_meaningful h) (initCmd9_accepted hdone hout (not_not.mp hr)) rfl
    · refine exec_answered h rfl (acceptR1_zero ..) ?_
      split
      · exact congrArg Env.cbQueue (hrefused _)
      · rfl

/-! ### The phases of an operation -/

/-- The sub-state idle again, as an operation's command leaves it (R285, R290, R300). -/
def commandIdle (s : State) : State := s.onSd fun d => { d with cmdPh := .idle }

/-- An error of an operation's command finishes it failed, with no CMD12 (R503). -/
theorem raise_atCommand {s : State} (hstate : s.sd.state ≠ .init)
    (hphase : s.sd.opPhase = .rdCmd ∨ s.sd.opPhase = .wrCmd ∨ s.sd.opPhase = .wrStatus) (e : Err) :
    raise e s = finish false .ready (withError e s) := by
  rw [raise_of_ne_init hstate]
  rcases hphase with h | h | h <;> rw [h] <;> rfl

/-- What makes the command of a read or write fail, and its code (R285, R290). -/
inductive OpCommandFails (s : State) : Err → Prop
  | timeout (hout : s.sd.cmdOut = .timeout) : OpCommandFails s .cmdTimeout
  | busyTimeout (hout : s.sd.cmdOut = .busyTimeout) : OpCommandFails s .busyTimeout
  | refused (hout : s.sd.cmdOut = .ok) (hr : respByte s 0 ≠ 0) : OpCommandFails s .r1Error

theorem opCommandPhase_failed {single multi : BitVec 6} {accepted : State → State} {s : State} {e : Err} (hdone : s.sd.cmdPh = .done)
    (hstate : s.sd.state ≠ .init) (hphase : s.sd.opPhase = .rdCmd ∨ s.sd.opPhase = .wrCmd) (h : OpCommandFails s e) :
    opCommandPhase single multi accepted s = (.again, finish false .ready (withError e (commandIdle s))) := by
  have hraise : ∀ e, raise e (commandIdle s) = finish false .ready (withError e (commandIdle s)) := fun e =>
    raise_atCommand (s := commandIdle s) hstate (hphase.imp id .inl) e
  rw [opCommandPhase, hdone]
  dsimp only [State.onSd_sd]
  cases h with
  | timeout hout =>
    rw [← hraise, hout]
    rfl
  | busyTimeout hout =>
    rw [← hraise, hout]
    rfl
  | refused hout hr =>
    rw [← hraise, hout]
    exact if_neg hr

theorem opCommandPhase_accepted {single multi : BitVec 6} {accepted : State → State} {s : State} (hdone : s.sd.cmdPh = .done)
    (hout : s.sd.cmdOut = .ok) (hr : respByte s 0 = 0) : opCommandPhase single multi accepted s = (.again, accepted (commandIdle s)) := by
  rw [opCommandPhase, hdone]
  dsimp only [State.onSd_sd]
  rw [hout]
  exact if_pos hr

/-- The command of a read or write, in its phase. -/
theorem opCommand_cases {i : Instr} {arg : U32} {crc : BitVec 7} {s : State}
    (hi : i ∈ [Instr.cmd17 arg crc, .cmd18 arg crc, .cmd24 arg crc, .cmd25 arg crc]) (h : commandSelected i s = true) :
    s.sd.state = .read ∧ s.sd.opPhase = .rdCmd ∧ commandRun i s = rdCmd s ∨
    s.sd.state = .write ∧ s.sd.opPhase = .wrCmd ∧ commandRun i s = wrCmd s := by
  have hphase : ∀ {p q r : Bool}, (p && q && r) = true → p = true := fun h => (Bool.and_eq_true_iff.mp (Bool.and_eq_true_iff.mp h).1).1
  simp only [List.mem_cons, List.not_mem_nil, or_false] at hi
  rcases hi with rfl | rfl | rfl | rfl
  · obtain ⟨hstate, _, hop⟩ := atPhase_iff.mp (hphase h)
    exact .inl ⟨hstate, hop, rfl⟩
  · obtain ⟨hstate, _, hop⟩ := atPhase_iff.mp (hphase h)
    exact .inl ⟨hstate, hop, rfl⟩
  · obtain ⟨hstate, _, hop⟩ := atPhase_iff.mp (hphase h)
    exact .inr ⟨hstate, hop, rfl⟩
  · obtain ⟨hstate, _, hop⟩ := atPhase_iff.mp (hphase h)
    exact .inr ⟨hstate, hop, rfl⟩

theorem opCommand_response {i : Instr} {arg : U32} {crc : BitVec 7}
    (hi : i ∈ [Instr.cmd17 arg crc, .cmd18 arg crc, .cmd24 arg crc, .cmd25 arg crc]) :
    commandResponse i = .r1 ∧ ∀ crc, i ≠ .cmd12 crc := by
  simp only [List.mem_cons, List.not_mem_nil, or_false] at hi
  rcases hi with rfl | rfl | rfl | rfl <;> exact ⟨rfl, nofun⟩

/-- A failing command of a read or write finishes it failed. -/
theorem exec_opCommand_failed {i : Instr} {arg : U32} {crc : BitVec 7} {s : State} {e : Err} (h : executing i .done s = true)
    (hi : i ∈ [Instr.cmd17 arg crc, .cmd18 arg crc, .cmd24 arg crc, .cmd25 arg crc]) (hr : respMeaningless s = false)
    (hfails : OpCommandFails s e) (hquiet : quietClient s = true) : exec i s = .next (finished false .ready (withError e s)) := by
  obtain ⟨hsel, _, _, hdone, _⟩ := executing_iff.mp h
  have hrun : commandRun i s = (.again, finish false .ready (withError e (commandIdle s))) := by
    rcases opCommand_cases hi hsel with ⟨hstate, hphase, hrun⟩ | ⟨hstate, hphase, hrun⟩
    · rw [hrun]
      exact opCommandPhase_failed hdone (by rw [hstate]; decide) (.inl hphase) hfails
    · rw [hrun]
      exact opCommandPhase_failed hdone (by rw [hstate]; decide) (.inr hphase) hfails
  exact exec_done_finish h hr hrun rfl rfl hquiet

/-- Accepted, the token search or the first packet follows. -/
theorem exec_opCommand_accepted {i : Instr} {arg : U32} {crc : BitVec 7} {s : State} (h : answered i s = true)
    (hi : i ∈ [Instr.cmd17 arg crc, .cmd18 arg crc, .cmd24 arg crc, .cmd25 arg crc]) (hr : respByte s 0 = 0) :
    exec i s = .next { s with
      op := { s.op with idx := 0 }
      sd := { s.sd with
        cmdPh := .idle
        opPhase := if s.sd.state = .read then .rdToken else .wrSend
        tAnchor := if s.sd.state = .read then s.env.now else s.sd.tAnchor } } := by
  obtain ⟨hexec, hout, _⟩ := answered_iff.mp h
  obtain ⟨hsel, _, _, hdone, _⟩ := executing_iff.mp hexec
  refine exec_done (c := .again) hexec (answered_meaningful h) ?_ rfl
  rcases opCommand_cases hi hsel with ⟨hstate, _, hrun⟩ | ⟨hstate, _, hrun⟩
  · rw [hrun, rdCmd, opCommandPhase_accepted hdone hout hr, if_pos hstate, if_pos hstate]
    rfl
  · have hread : s.sd.state ≠ .read := by rw [hstate]; decide
    rw [hrun, wrCmd, opCommandPhase_accepted hdone hout hr, if_neg hread, if_neg hread]
    rfl

theorem wrStatus_failed {s : State} (hdone : s.sd.cmdPh = .done) (hphase : atPhase .write .wrStatus s = true) :
    (s.sd.cmdOut ≠ .ok → wrStatus s = (.again, finish false .ready (withError .cmdTimeout (commandIdle s)))) ∧
    (s.sd.cmdOut = .ok → ¬(respByte s 0 = 0 ∧ respByte s 1 = 0) →
      wrStatus s = (.again, finish false .ready (withError .statusNonzero (commandIdle s)))) := by
  obtain ⟨hstate, _, hop⟩ := atPhase_iff.mp hphase
  have hraise : ∀ e, raise e (commandIdle s) = finish false .ready (withError e (commandIdle s)) := fun e =>
    raise_atCommand (s := commandIdle s) (show s.sd.state ≠ .init by rw [hstate]; decide) (.inr (.inr hop)) e
  constructor
  · intro hout
    rw [← hraise, wrStatus, hdone]
    exact if_pos hout
  · intro hout hr
    rw [← hraise, wrStatus, hdone]
    exact (if_neg (not_not_intro hout)).trans (if_neg hr)

theorem wrStatus_passed {s : State} (hdone : s.sd.cmdPh = .done) (hout : s.sd.cmdOut = .ok) (h0 : respByte s 0 = 0)
    (h1 : respByte s 1 = 0) : wrStatus s = (.again, finish true .ready (commandIdle s)) := by
  rw [wrStatus, hdone]
  exact (if_neg (not_not_intro hout)).trans (if_pos ⟨h0, h1⟩)

/-- Settles O39: the read and write commands, CMD13 and the CMD12 of an abort. -/
theorem operationCommandsEvaluated : Obligations.OperationCommandsEvaluated := by
  intro s i arg crc h
  refine ⟨fun hi => ?_, fun hi hquiet => ?_, fun hi hquiet => ?_⟩
  · obtain ⟨hresponse, hstop⟩ := opCommand_response hi
    refine ⟨fun hquiet hout => ?_, fun hquiet hout => ?_, fun hquiet hans hr => ?_, fun hout hgot => ?_, fun hans hr => ?_⟩
    · exact exec_opCommand_failed h hi (respMeaningless_of_out (by rw [hout]; decide)) (.timeout hout) hquiet
    · exact exec_opCommand_failed h hi (respMeaningless_of_out (by rw [hout]; decide)) (.busyTimeout hout) hquiet
    · exact exec_opCommand_failed h hi (answered_meaningful hans) (.refused (answered_iff.mp hans).2.1 hr) hquiet
    · refine exec_unanswered h hstop hout ?_
      rw [hgot, hresponse]
      exact Nat.one_pos
    · exact exec_opCommand_accepted hans hi hr
  · subst hi
    obtain ⟨hsel, _, _, hdone, _⟩ := executing_iff.mp h
    obtain ⟨htimeout, hnonzero⟩ := wrStatus_failed hdone hsel
    refine ⟨fun hout => ?_, fun hout hgot => exec_unanswered h nofun hout hgot, fun hans h0 h1 => ?_, fun hans hr => ?_⟩
    · exact exec_done_finish h (respMeaningless_of_out hout) (htimeout hout) rfl rfl hquiet
    · exact exec_done_finish h (answered_meaningful hans) (wrStatus_passed hdone (answered_iff.mp hans).2.1 h0 h1) rfl rfl hquiet
    · exact exec_done_finish h (answered_meaningful hans) (hnonzero (answered_iff.mp hans).2.1 hr) rfl rfl hquiet
  · subst hi
    obtain ⟨hsel, _, _, hdone, _⟩ := executing_iff.mp h
    have hexamined : respExamined s = 0 := by
      unfold respExamined
      rcases Bool.or_eq_true_iff.mp hsel with hphase | hphase
      all_goals
        obtain ⟨hstate, _, hop⟩ := atPhase_iff.mp hphase
        rw [hstate, hop]
        rfl
    have hrun : commandRun (.cmd12 crc) s = (.again, finish false .ready (commandIdle s)) := by
      show abortPhase s = _
      rw [abortPhase, hdone]
      rfl
    exact exec_done_finish h (respMeaningless_of_examined hexamined) hrun rfl rfl hquiet

end Sys2Proof.Machine
end

section
/-! The words the card sends on a search (30_encoding.md sections 2, 3): the transaction that brings a word first, and what the search that
waits for it makes of the word. -/

namespace Sys2Proof.Machine

/-! ### A search transaction that completes -/

theorem searching_iff {s : State} : searching s = true ↔ s.sd.xferPending = true ∧ s.env.done = false ∧ s.sd.xferRole = .search ∧
    s.sd.rxRetain = [] ∧ s.sd.rxSkip = false ∧ s.env.cardDetect = true := by
  simp [searching, and_assoc]

/-- The in-bytes of a search begin with the word, where it has room for it. -/
theorem inBytesAfter_eq_append {word : List Byte} {s : State} (h : word.length ≤ s.sd.xferInLen) :
    inBytesAfter word s = word ++ (inBytesAfter word s).drop word.length := by
  have hbytes : inBytesAfter word s = word ++ ((s.env.stream.take (s.sd.xferInLen - word.length)) ++
      List.replicate (s.sd.xferInLen - (word ++ s.env.stream).length) Config.fill) := by
    rw [inBytesAfter, List.take_append, List.take_of_length_le h, List.append_assoc]
  rw [hbytes, List.drop_left]

/-- A round that sees its transaction complete: the delivery, then removal or the handler (R278, R305). -/
theorem pollBody_delivered {s u : State} (hpending : s.sd.xferPending = true) (hdone : s.env.done = true) (hdeliver : deliver s = .ok u) :
    pollBody s = removalOrHandler u := by
  have hgo : ¬((s.sd.xferPending && !s.env.done) = true) := by rw [hdone, Bool.not_true, Bool.and_false]; decide
  unfold pollBody
  rw [if_neg hgo, if_pos hpending, hdeliver]
  rfl

theorem removalOrHandler_present {s : State} (h : s.env.cardDetect = true) : removalOrHandler s = sdHandler s :=
  if_neg (by rw [h]; exact Bool.false_ne_true)

/-- The transport has completed the search, whose bytes begin with the word. -/
def completed (word : List Byte) (s : State) : State :=
  s.onEnv fun e => { e with done := true, inBytes := inBytesAfter word s, stream := (word ++ e.stream).drop s.sd.xferInLen }

theorem completeTransfer_searching {word : List Byte} {s : State} (h : searching s = true) :
    completeTransfer (s.onEnv fun e => { e with stream := word ++ e.stream }) = completed word s := by
  obtain ⟨hpending, hdone, _⟩ := searching_iff.mp h
  exact if_pos (by rw [State.onEnv_sd, State.onEnv_env, hpending, hdone]; rfl)

theorem deliver_completed {word : List Byte} {s : State} (h : searching s = true) :
    deliver (completed word s) = .ok (received 0 word s) := by
  obtain ⟨_, _, hrole, hretain, _⟩ := searching_iff.mp h
  rw [deliver_search (s := completed word s) hrole]
  simp [delivered, completed, State.onSd, State.onEnv, received, hretain, hrole]

/-- The engine may run its handler once the search is delivered. -/
theorem engineFree_received {s : State} (h : searching s = true) (n : Nat) (word : List Byte) : engineFree (received n word s) = true :=
  engineFree_iff.mpr ⟨rfl, (searching_iff.mp h).2.2.2.2.2⟩

/-- The round that sees a search complete is the round of the state with the in-bytes retained (R278). -/
theorem pollRound_completed {word : List Byte} {s : State} (h : searching s = true) :
    pollRound (completed word s) = pollRound (received 0 word s) := by
  have hbody : pollBody (completed word s) = pollBody (received 0 word s) := by
    rw [pollBody_free (engineFree_received h 0 word),
      pollBody_delivered (s := completed word s) (searching_iff.mp h).1 rfl (deliver_completed h)]
    exact removalOrHandler_present (searching_iff.mp h).2.2.2.2.2
  unfold pollRound
  rw [hbody]

/-- The word is examined in one handler run. -/
theorem cardSends_once {word : List Byte} {s t : State} {c : Ctl} (h : searching s = true)
    (hround : pollRound (received 0 word s) = .ok (c, t)) (hph : t.sd.cmdPh ≠ .resp) : cardSends word s = .next t := by
  obtain ⟨hpending, hdone, _⟩ := searching_iff.mp h
  have hbusy : (s.sd.xferPending && !s.env.done) = true := by rw [hpending, hdone]; rfl
  have hlast : ¬(c = .again ∧ t.sd.cmdPh = .resp) := fun hresp => hph hresp.2
  unfold cardSends
  rw [if_pos hbusy, completeTransfer_searching h, pollRound_completed h, hround]
  show toOutcome (if c = .again ∧ t.sd.cmdPh = .resp then _ else _) = _
  rw [if_neg hlast]
  rfl

/-- A response's remaining bytes are taken by a second run (R283). -/
theorem cardSends_twice {word : List Byte} {s t u : State} {c : Ctl} (h : searching s = true)
    (hround : pollRound (received 0 word s) = .ok (.again, t)) (hph : t.sd.cmdPh = .resp) (hnext : pollRound t = .ok (c, u)) :
    cardSends word s = .next u := by
  obtain ⟨hpending, hdone, _⟩ := searching_iff.mp h
  have hbusy : (s.sd.xferPending && !s.env.done) = true := by rw [hpending, hdone]; rfl
  unfold cardSends
  rw [if_pos hbusy, completeTransfer_searching h, pollRound_completed h, hround]
  show toOutcome (if Ctl.again = .again ∧ t.sd.cmdPh = .resp then _ else _) = _
  rw [if_pos ⟨rfl, hph⟩, hnext]
  rfl

/-- A search whose first byte is the one sought takes that byte. -/
theorem searchStep_received {p : Byte → Bool} {w : U32} {b : Byte} {tail : List Byte} {s : State} (h : searching s = true)
    (hroom : (b :: tail).length ≤ s.sd.xferInLen) (hb : p b = true) :
    searchStep p w (received 0 (b :: tail) s) = (.found b, received 1 (b :: tail) s) := by
  obtain ⟨_, _, _, _, hskip, _⟩ := searching_iff.mp h
  have hretain : (received 0 (b :: tail) s).sd.rxRetain = b :: (inBytesAfter (b :: tail) s).drop 1 := by
    show (inBytesAfter (b :: tail) s).drop 0 = _
    rw [inBytesAfter_eq_append hroom]
    rfl
  have hscan : scan p (received 0 (b :: tail) s).sd.rxSkip (received 0 (b :: tail) s).sd.rxRetain =
      (some b, s.sd.rxSkip, (inBytesAfter (b :: tail) s).drop 1) := by
    rw [hretain, show (received 0 (b :: tail) s).sd.rxSkip = false from hskip, hskip]
    exact scan_head p b _ hb
  rw [searchStep_found hscan]
  rfl

/-! ### The handlers of the searches -/

/-- The token search of a block or of the CSD (R279, R243). -/
theorem sdHandler_readToken {s : State} (h : seeks .readToken s = true) (hr : respMeaningless s = false) : sdHandler s = .ok (rdToken s) := by
  rcases Bool.or_eq_true_iff.mp h with hphase | hcsd
  · rw [sdHandler_atRead hphase hr, readHandler, (atPhase_iff.mp hphase).2.2]
  · obtain ⟨hinit, hphase⟩ := Bool.and_eq_true_iff.mp hcsd
    obtain ⟨hstate, hstep⟩ := atInit_iff.mp hinit
    rw [sdHandler_init hstate hr, initHandler, hstep]
    dsimp only
    rw [initCsd, beq_iff_eq.mp hphase]

theorem sdHandler_dataResponse {s : State} (h : seeks .dataResponse s = true) (hr : respMeaningless s = false) :
    sdHandler s = .ok (wrDresp s) := by
  rw [sdHandler_atWrite h hr, writeHandler, (atPhase_iff.mp h).2.2]

/-- Where the engine executes a command, some command is selected. -/
theorem exists_commandSelected {s : State} (h : inCommand s = true) : ∃ i, commandSelected i s = true := by
  unfold inCommand at h
  simp only [Bool.or_eq_true, Bool.and_eq_true, beq_iff_eq, bne_iff_ne] at h
  have hinit : ∀ {st : InitStep}, s.sd.state = .init → s.sd.initStep = st → atInit st s = true := fun h1 h2 => atInit_iff.mpr ⟨h1, h2⟩
  have hcount : ∀ {p : Bool}, p = true → s.op.count = 1 → (p && s.op.count == 1 && opArgument s == opArgument s) = true := by
    intro p hp hcount
    simp [hp, hcount]
  have hcounts : ∀ {p : Bool}, p = true → s.op.count ≠ 1 → (p && s.op.count != 1 && opArgument s == opArgument s) = true := by
    intro p hp hcount
    simpa [hp] using hcount
  rcases h with ((((⟨⟨hstate, hclocks⟩, hcsd⟩ | hread) | habort) | hwrite) | hstatus) | habort
  · cases hstep : s.sd.initStep with
    | clocks => exact absurd hstep hclocks
    | csd => exact absurd hstep hcsd
    | cmd0 => exact ⟨.cmd0 0, hinit hstate hstep⟩
    | cmd8 => exact ⟨.cmd8 0, hinit hstate hstep⟩
    | cmd59 => exact ⟨.cmd59 (BitVec.ofBool s.cfg.useCrc) 0, Bool.and_eq_true_iff.mpr ⟨hinit hstate hstep, beq_self_eq_true _⟩⟩
    | cmd55 => exact ⟨.cmd55 0, hinit hstate hstep⟩
    | acmd41 => exact ⟨.acmd41 0, hinit hstate hstep⟩
    | cmd1 => exact ⟨.cmd1 0, hinit hstate hstep⟩
    | cmd58 => exact ⟨.cmd58 0, hinit hstate hstep⟩
    | cmd9 => exact ⟨.cmd9 0, hinit hstate hstep⟩
    | cmd16 => exact ⟨.cmd16 0, hinit hstate hstep⟩
  · by_cases hone : s.op.count = 1
    · exact ⟨.cmd17 (opArgument s) 0, hcount hread hone⟩
    · exact ⟨.cmd18 (opArgument s) 0, hcounts hread hone⟩
  · exact ⟨.cmd12 0, Bool.or_eq_true_iff.mpr (.inl habort)⟩
  · by_cases hone : s.op.count = 1
    · exact ⟨.cmd24 (opArgument s) 0, hcount hwrite hone⟩
    · exact ⟨.cmd25 (opArgument s) 0, hcounts hwrite hone⟩
  · exact ⟨.cmd13 0, hstatus⟩
  · exact ⟨.cmd12 0, Bool.or_eq_true_iff.mpr (.inr habort)⟩

/-- A command under way is the execution sub-machine's (R281-R283). -/
theorem sdHandler_mid {s : State} (h : inCommand s = true) (hmid : midCommand s.sd.cmdPh) : sdHandler s = .ok (cmdStep s) := by
  obtain ⟨i, hsel⟩ := exists_commandSelected h
  rw [sdHandler_command hsel (respMeaningless_of_ne_done hmid.2), commandRun_mid hsel hmid]

/-! ### Responses -/

/-- Bytes stored in `RESP` one after another. -/
def putResp : List Byte → Nat → Vector Byte 5 → Vector Byte 5
  | [], _, r => r
  | b :: rest, k, r => putResp rest (k + 1) (r.setIfInBounds k b)

theorem fillResp_append (bytes rest : List Byte) (got : Nat) (r : Vector Byte 5) :
    fillResp (got + bytes.length) (bytes ++ rest) got r = (rest, got + bytes.length, putResp bytes got r) := by
  induction bytes generalizing got r with
  | nil => cases rest with
    | nil => rfl
    | cons b rest => exact if_neg (Nat.lt_irrefl _)
  | cons b bytes ih =>
    have hlength : got + (b :: bytes).length = got + 1 + bytes.length := by rw [List.length_cons]; omega
    rw [List.cons_append, fillResp, if_pos (by rw [List.length_cons]; omega), hlength]
    exact ih (got + 1) (r.setIfInBounds got b)

theorem byteAt_setIfInBounds (r : Vector Byte 5) (k j : Nat) (b : Byte) (hk : k < 5) :
    byteAt (r.setIfInBounds k b).toList j = if j = k then b else byteAt r.toList j := by
  have hlist : (r.setIfInBounds k b).toList = r.toList.set k b := by simp
  rw [hlist, byteAt, byteAt, List.getD_eq_getElem?_getD, List.getD_eq_getElem?_getD, List.getElem?_set]
  split
  next h =>
    subst h
    rw [if_pos (by simpa using hk), if_pos rfl]
    rfl
  next h => rw [if_neg (Ne.symm h)]

theorem byteAt_putResp (bytes : List Byte) (k : Nat) (r : Vector Byte 5) (hroom : k + bytes.length ≤ 5) (j : Nat) :
    byteAt (putResp bytes k r).toList j = if k ≤ j ∧ j < k + bytes.length then byteAt bytes (j - k) else byteAt r.toList j := by
  induction bytes generalizing k r with
  | nil => rw [if_neg (by rw [List.length_nil]; omega)]; rfl
  | cons b bytes ih =>
    rw [List.length_cons] at hroom ⊢
    rw [putResp, ih (k + 1) _ (by omega), byteAt_setIfInBounds r k j b (by omega)]
    rcases Nat.lt_trichotomy j k with h | rfl | h
    · rw [if_neg (by omega), if_neg (by omega), if_neg (by omega)]
    · rw [if_neg (by omega), if_pos rfl, if_pos (by omega), Nat.sub_self]
      rfl
    · have hcons : byteAt (b :: bytes) (j - k) = byteAt bytes (j - (k + 1)) := by
        obtain ⟨d, hd⟩ : ∃ d, j - k = d + 1 := ⟨j - k - 1, by omega⟩
        rw [hd, show j - (k + 1) = d by omega]
        rfl
      rw [hcons, if_neg (show ¬j = k by omega)]
      exact if_congr (by omega) rfl rfl

/-- The first byte of a response (R283). -/
theorem cmdResp_first {b : Byte} {tail : List Byte} {s : State} (h : searching s = true) (hgot : s.sd.respGot = 0)
    (hroom : (b :: tail).length ≤ s.sd.xferInLen) (hb : isResponse b = true) :
    cmdResp (received 0 (b :: tail) s) = (.again, { received 1 (b :: tail) s with
      sd := { (received 1 (b :: tail) s).sd with resp := s.sd.resp.setIfInBounds 0 b, respGot := 1 } }) := by
  have hgot : (received 0 (b :: tail) s).sd.respGot = 0 := hgot
  unfold cmdResp
  dsimp only
  rw [if_pos hgot, searchStep_received h hroom hb]
  rfl

/-- The rest of a response that is all there. -/
theorem cmdResp_rest {bytes rest : List Byte} {s : State} (hgot : s.sd.respGot = 1)
    (hlength : responseLength s.sd.cmdRtype = 1 + bytes.length) (hretain : s.sd.rxRetain = bytes ++ rest) :
    cmdResp s = (.again, { s with sd := { s.sd with
      rxRetain := rest, respGot := 1 + bytes.length, resp := putResp bytes 1 s.sd.resp, cmdOut := .ok, cmdPh := .done } }) := by
  unfold cmdResp
  dsimp only
  rw [if_neg (by rw [hgot]; decide), hlength, hretain, hgot, fillResp_append]
  dsimp only
  rw [if_neg (Nat.lt_irrefl _)]
  rfl

/-- A response's word: its status byte, with bit 7 clear, and the rest (R133). -/
theorem encode_response {i : Instr} {type : RType} (h : formatOf i = .resp type) : ∃ b tail, encode i = b :: tail ∧ isResponse b = true ∧
    responseLength type = 1 + tail.length ∧ ∀ s, exec i s = cardSends (encode i) s := by
  have hstatus : ∀ status : BitVec 7, isResponse (statusByte status) = true := by decide
  cases i
  case r1 status | r1b status | r2 status second | r3 status ocr | r7 status other voltage echo =>
    cases h
    exact ⟨_, _, rfl, hstatus status, rfl, fun _ => rfl⟩
  all_goals cases h

theorem responseLength_le (type : RType) : responseLength type ≤ 5 := by
  cases type <;> decide

/-- Settles O40: the first byte by the search, the others by the run after it. -/
theorem responsesAreReceived : Obligations.ResponsesAreReceived := by
  intro s i type hformat hin hph hgot htype hsearching hroom hnone
  obtain ⟨b, tail, hword, hb, hlength, hexec⟩ := encode_response hformat
  have hmid : midCommand s.sd.cmdPh := by rw [hph]; exact ⟨nofun, nofun⟩
  have hfits : (b :: tail).length ≤ s.sd.xferInLen := by rw [List.length_cons]; omega
  have htake : (inBytesAfter (b :: tail) s).drop 1 = tail ++ (inBytesAfter (b :: tail) s).drop (responseLength type) := by
    refine (congrArg (List.drop 1) (inBytesAfter_eq_append hfits)).trans ?_
    rw [hlength, Nat.add_comm]
    rfl
  rw [hexec, hword]
  generalize hu : { received 1 (b :: tail) s with
    sd := { (received 1 (b :: tail) s).sd with resp := s.sd.resp.setIfInBounds 0 b, respGot := 1 } } = u
  have hfirst : pollRound (received 0 (b :: tail) s) = .ok (.again, u) := by
    have hrun : cmdStep (received 0 (b :: tail) s) = cmdResp (received 0 (b :: tail) s) := by
      rw [cmdStep, show (received 0 (b :: tail) s).sd.cmdPh = .resp from hph]
    refine pollRound_quiet (s := received 0 (b :: tail) s) ?_ (by rw [← hu]; rfl) hnone
    rw [pollBody_free (engineFree_received hsearching 0 _), sdHandler_mid (s := received 0 (b :: tail) s) hin hmid, hrun,
      cmdResp_first hsearching hgot hfits hb, hu]
  have hph' : u.sd.cmdPh = .resp := by rw [← hu]; exact hph
  have hrest : pollRound u = .ok (.again, { u with sd := { u.sd with
      rxRetain := (inBytesAfter (b :: tail) s).drop (responseLength type), respGot := responseLength type
      resp := putResp tail 1 u.sd.resp, cmdOut := .ok, cmdPh := .done } }) := by
    have hrun : cmdStep u = cmdResp u := by rw [cmdStep, hph']
    have hfree : engineFree u = true := by rw [← hu]; exact engineFree_received hsearching 1 _
    have hin : inCommand u = true := by rw [← hu]; exact hin
    refine pollRound_quiet (s := u) ?_ rfl (by rw [← hu]; exact hnone)
    rw [pollBody_free hfree, sdHandler_mid hin (by rw [hph']; exact ⟨nofun, nofun⟩), hrun,
      cmdResp_rest (bytes := tail) (rest := (inBytesAfter (b :: tail) s).drop (responseLength type)) (by rw [← hu])
        (by rw [← hu]; exact htype ▸ hlength) (by rw [← hu]; exact htake), hlength]
  have hbound := responseLength_le type
  have hbytes : ∀ k, byteAt (putResp tail 1 u.sd.resp).toList k = if k < responseLength type then byteAt (b :: tail) k else respByte s k := by
    intro k
    rw [byteAt_putResp tail 1 _ (by omega), ← hu]
    dsimp only
    rw [byteAt_setIfInBounds _ 0 k b (by decide), hlength]
    cases k with
    | zero =>
      rw [if_neg (by omega), if_pos rfl, if_pos (by omega)]
      rfl
    | succ k => exact if_congr (by omega) rfl (if_neg (by omega))
  refine ⟨_, cardSends_twice hsearching hfirst hph' hrest, fun k hk => (hbytes k).trans (if_pos hk),
    fun k hk => (hbytes k).trans (if_neg (by omega)), ?_⟩
  rw [← hu]
  rfl

/-! ### Tokens -/

/-- The token search finds the start token: the block's data begins (R284). -/
theorem rdToken_start {s t : State} (h : searchStep isReadToken s.cfg.busyTimeoutMs s = (.found Config.tokStart, t)) :
    rdToken s = (.again, { t with op := { t.op with byte := 0, crc := 0 }, sd := { t.sd with opPhase := .rdData } }) := by
  rw [rdToken, h]
  rfl

/-- It finds a data-error token: its class is raised. -/
theorem rdToken_error {s t : State} {b : Byte} (h : searchStep isReadToken s.cfg.busyTimeoutMs s = (.found b, t)) (hb : b ≠ Config.tokStart) :
    rdToken s = (.again, raise (dataErrorClass b) t) := by
  rw [rdToken, h]
  exact if_neg hb

/-- The token of a data error (R142). -/
theorem dataError_token (bits : BitVec 4) : isReadToken (0#4 ++ bits) = true ∧ (0#4 ++ bits) ≠ Config.tokStart ∧
    dataErrorClass (0#4 ++ bits) = if bits.getLsbD 3 then .dataErrRange else if bits.getLsbD 2 then .dataErrEcc else .dataErrGeneric := by
  revert bits
  decide

/-- A word of one byte that the handler examines in one run. -/
theorem cardSends_byte {b : Byte} {s t : State} {c : Ctl} (h : searching s = true)
    (hrun : sdHandler (received 0 [b] s) = .ok (c, t)) (hqueue : t.env.cbQueue = s.env.cbQueue) (hnone : s.env.cbQueue = none)
    (hph : t.sd.cmdPh ≠ .resp) : cardSends [b] s = .next t := by
  refine cardSends_once h (c := c) (pollRound_quiet (s := received 0 [b] s) ?_ hqueue hnone) hph
  rw [pollBody_free (engineFree_received h 0 _), hrun]

theorem cardSends_byte_finish {b : Byte} {s u : State} {c : Ctl} {success : Bool} {dest : SdState} (h : searching s = true)
    (hrun : sdHandler (received 0 [b] s) = .ok (c, finish success dest u)) (hop : u.op.cb = s.op.cb)
    (henv : u.env.cbScript = s.env.cbScript) (hquiet : quietClient s = true) :
    cardSends [b] s = .next (finished success dest u) := by
  refine cardSends_once h (c := c) (pollRound_finish (s := received 0 [b] s) ?_ hop henv ((quietClient_congr rfl rfl).trans hquiet)) nofun
  rw [pollBody_free (engineFree_received h 0 _), hrun]

/-- A state with the command's sub-state idle examines no response. -/
theorem respMeaningless_of_idle {s : State} (h : s.sd.cmdPh = .idle) : respMeaningless s = false :=
  respMeaningless_of_ne_done (by rw [h]; decide)

/-- An error of a token search outside initialisation, of one block or of several (R503). -/
theorem raise_search {p : OpPhase} {abort : OpPhase} {s : State} (hstate : s.sd.state ≠ .init) (hphase : s.sd.opPhase = p)
    (hfrom : ∀ s, raiseFrom p s = abortTo abort s) (e : Err) :
    (s.op.count = 1 → raise e s = finish false .ready (withError e s)) ∧
    (s.op.count ≠ 1 → raise e s = { withError e s with sd := { s.sd with opPhase := abort, cmdPh := .idle } }) := by
  have hraise : raise e s = abortTo abort (withError e s) := by
    rw [raise_of_ne_init hstate, hphase, hfrom]
    rfl
  exact ⟨fun h => hraise.trans (abortTo_single (s := withError e s) h abort), fun h => hraise.trans (abortTo_many (s := withError e s) h abort)⟩

/-- Settles O41: the start token, and a data-error token in each of the three reads. -/
theorem readTokens : Obligations.ReadTokens := by
  intro s bits hsearching hroom hnone hidle
  obtain ⟨hpending, _, _, _, hskip, _⟩ := searching_iff.mp hsearching
  obtain ⟨htoken, hstart, hclass⟩ := dataError_token bits
  have hroom : ∀ b : Byte, [b].length ≤ s.sd.xferInLen := fun _ => hroom
  have hr : ∀ word, respMeaningless (received 0 word s) = false := fun word => respMeaningless_of_idle (s := received 0 word s) hidle
  have hseeks : atPhase .read .rdToken s = true ∨ atInit .csd s = true ∧ s.sd.opPhase = .rdToken → seeks .readToken s = true := by
    rintro (h | ⟨h, hphase⟩)
    · exact Bool.or_eq_true_iff.mpr (.inl h)
    · exact Bool.or_eq_true_iff.mpr (.inr (Bool.and_eq_true_iff.mpr ⟨h, beq_iff_eq.mpr hphase⟩))
  have herror : seeks .readToken s = true → sdHandler (received 0 [0#4 ++ bits] s) =
      .ok (.again, raise (dataErrorClass (0#4 ++ bits)) (received 1 [0#4 ++ bits] s)) := by
    intro h
    rw [sdHandler_readToken (s := received 0 [0#4 ++ bits] s) h (hr _),
      rdToken_error (searchStep_received hsearching (hroom _) htoken) hstart]
  rw [hclass] at herror
  intro e t
  have hcb : t.env.cbQueue = s.env.cbQueue := rfl
  refine ⟨fun h => ?_, fun hcsd hphase => ?_, fun hread hcount => ?_, fun hread hcount hquiet => ?_⟩
  · have hsend : exec .tokStart s = cardSends [Config.tokStart] s := if_pos hpending
    rw [hsend]
    refine cardSends_byte (c := .again) hsearching ?_ rfl hnone (show s.sd.cmdPh ≠ .resp by rw [hidle]; decide)
    rw [sdHandler_readToken (s := received 0 [Config.tokStart] s) (hseeks h) (hr _),
      rdToken_start (searchStep_received hsearching (hroom _) (by decide))]
    rfl
  · have hraise : raise e t = stepFailed .cmd9 e { t with sd := { t.sd with session := false, opPhase := .none, rxRetain := [] } } := by
      rw [raise_of_init (s := t) (atInit_iff.mp hcsd).1, initFail_eq_stepFailed]
      refine congrArg (stepFailed .cmd9 e) ?_
      simp [endCsdRead, State.onSd, t, received, hskip]
    refine cardSends_byte (c := .again) hsearching ?_ ?_ hnone ?_
    · refine (herror (hseeks (.inr ⟨hcsd, hphase⟩))).trans ?_
      show Except.ok (Ctl.again, raise e t) = _
      rw [hraise]
    · rfl
    · exact show s.sd.cmdPh ≠ .resp by rw [hidle]; decide
  · obtain ⟨hstate, _, hphase⟩ := atPhase_iff.mp hread
    have hraise := (raise_search (s := t) (abort := .rdAbort) (show s.sd.state ≠ .init by rw [hstate]; decide) hphase (fun _ => rfl) e).2 hcount
    refine cardSends_byte (c := .again) hsearching ?_ ?_ hnone ?_
    · refine (herror (hseeks (.inl hread))).trans ?_
      show Except.ok (Ctl.again, raise e t) = _
      rw [hraise]
      simp [t, received, withError, hidle]
    · exact hcb
    · exact show s.sd.cmdPh ≠ .resp by rw [hidle]; decide
  · obtain ⟨hstate, _, hphase⟩ := atPhase_iff.mp hread
    have hraise := (raise_search (s := t) (abort := .rdAbort) (show s.sd.state ≠ .init by rw [hstate]; decide) hphase (fun _ => rfl) e).1 hcount
    refine cardSends_byte_finish (c := .again) hsearching ?_ rfl rfl hquiet
    refine (herror (hseeks (.inl hread))).trans ?_
    show Except.ok (Ctl.again, raise e t) = _
    rw [hraise]

/-! ### The data response -/

/-- The byte of a data response (R141). -/
theorem dataResponse_byte (ignored status : BitVec 3) : isDataResponse (ignored ++ 0#1 ++ status ++ 1#1) = true ∧
    dataResponseStatus (ignored ++ 0#1 ++ status ++ 1#1) = status := by
  revert ignored status
  decide

/-- What a refused block raises (R295). -/
def dataResponseError (status : BitVec 3) : Err := if status = 0b101 then .dataCrc else if status = 0b110 then .writeError else .dataRespOther

theorem wrDresp_found {s t : State} {b : Byte} (h : searchStep isDataResponse s.cfg.cmdTimeoutMs s = (.found b, t)) :
    (dataResponseStatus b = 0b010 → wrDresp s = (.again, blockAccepted t)) ∧
    (dataResponseStatus b ≠ 0b010 → wrDresp s = (.again, raise (dataResponseError (dataResponseStatus b)) t)) := by
  rw [wrDresp, h]
  refine ⟨fun hb => if_pos hb, fun hb => (if_neg hb).trans ?_⟩
  unfold dataResponseError
  split
  · rfl
  · split <;> rfl

/-- The registers of an accepted block (R295). -/
theorem blockAccepted_eq (s : State) : blockAccepted s = { s with
    op := { s.op with done := s.op.idx + 1, idx := if s.op.idx + 1 < s.op.count then s.op.idx + 1 else s.op.idx }
    sd := { s.sd with
      tAnchor := s.env.now
      opPhase := if s.op.idx + 1 < s.op.count then .wrBusy else if s.op.count = 1 then .wrFinalBusy else .wrStopBusy } } := by
  unfold blockAccepted
  by_cases hmore : s.op.idx + 1 < s.op.count
  · simp only [State.onOp, State.onSd, hmore, if_true]
  · simp only [State.onOp, State.onSd, hmore, if_false]
    rfl

/-- Settles O43: the accepted block, and the classified error of one block or of several. -/
theorem dataResponses : Obligations.DataResponses := by
  intro s ignored status hsearching hroom hnone hidle hwrite
  obtain ⟨hstate, _, hphase⟩ := atPhase_iff.mp hwrite
  obtain ⟨hbyte, hstatus⟩ := dataResponse_byte ignored status
  have hroom : ∀ b : Byte, [b].length ≤ s.sd.xferInLen := fun _ => hroom
  have hr : ∀ word, respMeaningless (received 0 word s) = false := fun word => respMeaningless_of_idle (s := received 0 word s) hidle
  have hrun := sdHandler_dataResponse (s := received 0 [ignored ++ 0#1 ++ status ++ 1#1] s) hwrite (hr _)
  obtain ⟨haccept, hrefuse⟩ := wrDresp_found (searchStep_received (w := s.cfg.cmdTimeoutMs) hsearching (hroom _) hbyte)
  rw [hstatus] at haccept hrefuse
  intro i t e
  have hraise := raise_search (s := t) (abort := .wrAbort) (show s.sd.state ≠ .init by rw [hstate]; decide) hphase (fun _ => rfl) e
  have hph : s.sd.cmdPh ≠ .resp := by rw [hidle]; decide
  refine ⟨fun h => ?_, fun h hcount => ?_, fun h hcount hquiet => ?_⟩
  · refine cardSends_byte (c := .again) hsearching ?_ ?_ hnone ?_
    · rw [hrun, haccept h, blockAccepted_eq]
      rfl
    · rfl
    · exact hph
  · refine cardSends_byte (c := .again) hsearching ?_ ?_ hnone ?_
    · rw [hrun, hrefuse h]
      show Except.ok (Ctl.again, raise e t) = _
      rw [hraise.2 hcount]
      simp [t, received, withError, hidle]
    · rfl
    · exact hph
  · refine cardSends_byte_finish (c := .again) hsearching ?_ rfl rfl hquiet
    rw [hrun, hrefuse h]
    show Except.ok (Ctl.again, raise e t) = _
    rw [hraise.1 hcount]

end Sys2Proof.Machine
end

section
/-! The searches of an operation over the retained bytes, and the tokens a write sends (42_block_io.md sections 1, 4, 5). -/

namespace Sys2Proof.Machine

/-! ### What a search looks for -/

theorem isReady_eq_found : isReady = Sought.found .readyByte := rfl

theorem isReadToken_eq_found : isReadToken = Sought.found .readToken := rfl

theorem isResponse_eq_found : isResponse = Sought.found .stopResponse := rfl

theorem isDataResponse_eq_found : isDataResponse = Sought.found .dataResponse := by
  funext b
  revert b
  decide

theorem idleEngine_iff {s : State} : idleEngine s = true ↔ engineFree s = true ∧ s.sd.cmdPh ≠ .done ∧ s.env.cbQueue = none := by
  simp [idleEngine, and_assoc]

/-- A round of an engine with no command ended is its handler's run. -/
theorem pollBody_idle {s : State} (h : idleEngine s = true) : pollBody s = sdHandler s ∧ respMeaningless s = false :=
  ⟨pollBody_free (idleEngine_iff.mp h).1, respMeaningless_of_ne_done (idleEngine_iff.mp h).2.1⟩

/-! ### The handlers of the searches -/

/-- A phase of a write with a busy-poll seeks the ready byte and nothing else. -/
theorem seeks_writeBusy {x : Sought} {p : OpPhase} {s : State} (hphase : atPhase .write p s = true) (hp : p ≠ .wrDresp)
    (h : seeks x s = true) : x = .readyByte := by
  obtain ⟨hstate, _, hop⟩ := atPhase_iff.mp hphase
  cases x with
  | readyByte => rfl
  | dataResponse => exact absurd (hop.symm.trans (atPhase_iff.mp h).2.2) hp
  | stopResponse =>
    have hread := (atPhase_iff.mp h).1
    rw [hstate] at hread
    cases hread
  | readToken =>
    rcases Bool.or_eq_true_iff.mp h with h | h
    · have hread := (atPhase_iff.mp h).1
      rw [hstate] at hread
      cases hread
    · have hinit := (atInit_iff.mp (Bool.and_eq_true_iff.mp h).1).1
      rw [hstate] at hinit
      cases hinit

theorem seeks_rdStop {x : Sought} {s : State} (hphase : atPhase .read .rdStop s = true) (h : seeks x s = true) : x = .stopResponse := by
  obtain ⟨hstate, _, hop⟩ := atPhase_iff.mp hphase
  have hwrite : ∀ {p : OpPhase}, atPhase .write p s ≠ true := fun h => by
    have hstate' := (atPhase_iff.mp h).1
    rw [hstate] at hstate'
    cases hstate'
  cases x with
  | stopResponse => rfl
  | dataResponse => exact absurd h hwrite
  | readyByte =>
    simp only [seeks, Bool.or_eq_true] at h
    rcases h with ((h | h) | h) | h <;> exact absurd h hwrite
  | readToken =>
    rcases Bool.or_eq_true_iff.mp h with h | h
    · have hop' := (atPhase_iff.mp h).2.2
      rw [hop] at hop'
      cases hop'
    · have hinit := (atInit_iff.mp (Bool.and_eq_true_iff.mp h).1).1
      rw [hstate] at hinit
      cases hinit

/-- What the ready byte leads to, by the phase of the busy-poll (R291, R296, R297, R299). -/
inductive AfterReady (s : State) : (State → State) → Prop
  | next (h : atPhase .write .wrBusy s = true) : AfterReady s fun s => s.onSd fun d => { d with opPhase := .wrSend }
  | final (h : atPhase .write .wrFinalBusy s = true) : AfterReady s (finish true .ready)
  | stop (h : atPhase .write .wrStopBusy s = true) : AfterReady s fun s => s.onSd fun d => { d with opPhase := .wrStopToken }
  | post (h : atPhase .write .wrStopPostBusy s = true) :
      AfterReady s fun s => s.onSd fun d => { d with opPhase := .wrStatus, cmdPh := .idle }

theorem sdHandler_afterReady {s : State} {next : State → State} (h : AfterReady s next) (hr : respMeaningless s = false) :
    sdHandler s = .ok (writeBusy next s) := by
  cases h with
  | next h =>
    rw [sdHandler_atWrite h hr, writeHandler, (atPhase_iff.mp h).2.2]
    rfl
  | final h =>
    rw [sdHandler_atWrite h hr, writeHandler, (atPhase_iff.mp h).2.2]
    rfl
  | stop h =>
    rw [sdHandler_atWrite h hr, writeHandler, (atPhase_iff.mp h).2.2]
    rfl
  | post h =>
    rw [sdHandler_atWrite h hr, writeHandler, (atPhase_iff.mp h).2.2]
    rfl

/-- A busy-poll of a write, whatever its ready byte leads to. -/
theorem sdHandler_readyByte {s : State} (h : seeks .readyByte s = true) (hr : respMeaningless s = false) :
    ∃ next, sdHandler s = .ok (writeBusy next s) := by
  simp only [seeks, Bool.or_eq_true] at h
  rcases h with ((h | h) | h) | h
  · exact ⟨_, sdHandler_afterReady (.next h) hr⟩
  · exact ⟨_, sdHandler_afterReady (.final h) hr⟩
  · exact ⟨_, sdHandler_afterReady (.stop h) hr⟩
  · exact ⟨_, sdHandler_afterReady (.post h) hr⟩

/-- The stop after a read (R288). -/
theorem sdHandler_stopResponse {s : State} (h : seeks .stopResponse s = true) (hr : respMeaningless s = false) :
    sdHandler s = .ok (rdStop s) := by
  rw [sdHandler_atRead h hr, readHandler, (atPhase_iff.mp h).2.2]

/-- A search that waits ends the poll, in every phase. -/
theorem sdHandler_waits {x : Sought} {s t : State} (h : seeks x s = true) (hr : respMeaningless s = false)
    (hsearch : searchStep x.found (x.window s.cfg) s = (.wait, t)) : sdHandler s = .ok (.yield, t) := by
  cases x with
  | readyByte =>
    obtain ⟨next, hrun⟩ := sdHandler_readyByte h hr
    rw [hrun, writeBusy, isReady_eq_found, show searchStep _ s.cfg.busyTimeoutMs s = _ from hsearch]
  | readToken => rw [sdHandler_readToken h hr, rdToken, isReadToken_eq_found, show searchStep _ s.cfg.busyTimeoutMs s = _ from hsearch]
  | dataResponse =>
    rw [sdHandler_dataResponse h hr, wrDresp, isDataResponse_eq_found, show searchStep _ s.cfg.cmdTimeoutMs s = _ from hsearch]
  | stopResponse => rw [sdHandler_stopResponse h hr, rdStop, isResponse_eq_found, show searchStep _ s.cfg.cmdTimeoutMs s = _ from hsearch]

/-! ### The byte found -/

/-- The ready byte leads on. -/
theorem pollBody_ready {s t : State} {next : State → State} {b : Byte} (hidle : idleEngine s = true) (hnext : AfterReady s next)
    (hsearch : searchStep isReady s.cfg.busyTimeoutMs s = (.found b, t)) : pollBody s = .ok (.again, next t) := by
  obtain ⟨hbody, hr⟩ := pollBody_idle hidle
  rw [hbody, sdHandler_afterReady hnext hr, writeBusy, hsearch]

/-- Settles O33: the retained bytes decide the search, and the phase what follows. -/
theorem searchesEnd : Obligations.SearchesEnd := by
  intro s x skipped before rest b hidle hseeks hretain hskip hbefore hb t
  obtain ⟨hbody, hr⟩ := pollBody_idle hidle
  have hnone := (idleEngine_iff.mp hidle).2.2
  have hsearch : ∀ w, searchStep x.found w s = (.found b, t) := by
    intro w
    refine searchStep_found ?_
    rw [hretain]
    exact scan_found hskip hbefore hb
  refine ⟨?_, fun h => ?_, fun h hquiet => ?_, fun h => ?_, fun h => ?_, fun h hquiet => ?_⟩
  · rintro rfl rfl
    refine pollRound_quiet (hbody.trans ?_) (by rfl) hnone
    rw [sdHandler_readToken hseeks hr, rdToken_start (hsearch _)]
  · obtain rfl := seeks_writeBusy h (by decide) hseeks
    exact pollRound_quiet (pollBody_ready hidle (.next h) (hsearch _)) rfl hnone
  · obtain rfl := seeks_writeBusy h (by decide) hseeks
    exact pollRound_finish (pollBody_ready hidle (.final h) (hsearch _)) rfl rfl hquiet
  · obtain rfl := seeks_writeBusy h (by decide) hseeks
    exact pollRound_quiet (pollBody_ready hidle (.stop h) (hsearch _)) rfl hnone
  · obtain rfl := seeks_writeBusy h (by decide) hseeks
    exact pollRound_quiet (pollBody_ready hidle (.post h) (hsearch _)) rfl hnone
  · obtain rfl := seeks_rdStop h hseeks
    refine pollRound_finish (u := t) (hbody.trans ?_) rfl rfl hquiet
    rw [sdHandler_stopResponse hseeks hr, rdStop, isResponse_eq_found, hsearch]

/-! ### No byte found -/

/-- Settles O34: within the window another chunk or a wait, past it the phase's own error. -/
theorem searchesTimeOut : Obligations.SearchesTimeOut := by
  intro s x hidle hseeks hnot t
  obtain ⟨hbody, hr⟩ := pollBody_idle hidle
  have hnone := (idleEngine_iff.mp hidle).2.2
  refine ⟨fun hwithin => ?_, fun hexpired => ?_⟩
  · have hrun := sdHandler_waits hseeks hr (searchStep_wait (scan_none hnot) hwithin)
    refine ⟨fun hok => ?_, fun hok => ?_⟩
    · rw [hok] at hrun
      exact pollRound_quiet (hbody.trans hrun) rfl hnone
    · rw [hok] at hrun
      exact pollRound_quiet (hbody.trans hrun) rfl hnone
  · have hsearch : searchStep x.found (x.window s.cfg) s = (.timeout, t) := searchStep_timeout (scan_none hnot) hexpired
    refine ⟨?_, ?_, ?_, ?_⟩
    · rintro rfl
      rw [hbody, sdHandler_readToken hseeks hr, rdToken, isReadToken_eq_found, show searchStep _ s.cfg.busyTimeoutMs s = _ from hsearch]
    · rintro rfl
      obtain ⟨next, hrun⟩ := sdHandler_readyByte hseeks hr
      rw [hbody, hrun, writeBusy, isReady_eq_found, show searchStep _ s.cfg.busyTimeoutMs s = _ from hsearch]
    · rintro rfl
      rw [hbody, sdHandler_dataResponse hseeks hr, wrDresp, isDataResponse_eq_found, show searchStep _ s.cfg.cmdTimeoutMs s = _ from hsearch]
    · rintro rfl hquiet
      refine pollRound_finish (u := withError .cmdTimeout t) (hbody.trans ?_) rfl rfl hquiet
      rw [sdHandler_stopResponse hseeks hr, rdStop, isResponse_eq_found, show searchStep _ s.cfg.cmdTimeoutMs s = _ from hsearch]
      rfl

/-! ### The tokens of a write -/

/-- A data packet with a meaning is read and sent, or waits (R293). -/
theorem wrSend_eq {s : State} (h : sourceMeaningful s = true) (hspace : inSpace s.cfg s.op.buf.space (blockAddress s.op 0) 512 = true) :
    wrSend s = .ok (.yield, transmit (dataPacket s.cfg.useCrc (writeTokenByte s.op) (s.peekList s.op.buf.space (blockAddress s.op 0) 512))
      (fun s => s.onSd fun d => { d with opPhase := .wrDresp, tAnchor := s.env.now }) s) := by
  unfold wrSend readBytes
  rw [h, if_neg (by decide), if_pos hspace]
  rfl

theorem wrSend_meaningless {s : State} (h : sourceMeaningful s = false) : wrSend s = .error (.fault .meaninglessRead) := by
  unfold wrSend
  rw [h]
  rfl

/-- The word of a write's token, from its handler's run. -/
theorem sendWord_write {s t : State} {c : Ctl} (hfree : engineFree s = true) (hnone : s.env.cbQueue = none)
    (hrun : sdHandler s = .ok (c, t)) (hqueue : t.env.cbQueue = s.env.cbQueue) {selected : Bool} (hsel : selected = true) :
    sendWord selected s = .next t := by
  rw [hsel]
  exact sendWord_quiet hfree hrun hqueue hnone

/-- Settles O42: the packet of a single- and of a multi-block write, what has no meaning, and the stop token. -/
theorem writeTokens : Obligations.WriteTokens := by
  intro s hfree hnone payload crc dropped sent
  have hpending : ¬(s.sd.xferPending = true) := by
    rw [(engineFree_iff.mp hfree).1]
    decide
  have hexec : exec .tokStart s = sendWord (atPhase .write .wrSend s && s.op.count == 1) s := if_neg hpending
  have hexamined : ∀ {p : OpPhase}, p ≠ .wrCmd → p ≠ .wrStatus → atPhase .write p s = true → respMeaningless s = false := by
    intro p hcmd hstatus h
    obtain ⟨hstate, _, hop⟩ := atPhase_iff.mp h
    refine respMeaningless_of_examined ?_
    rw [respExamined, hstate]
    dsimp only
    rw [hop, if_neg hcmd, if_neg hstatus]
  have hsend : atPhase .write .wrSend s = true → sdHandler s = wrSend s := by
    intro h
    rw [sdHandler_atWrite h (hexamined (by decide) (by decide) h), writeHandler, (atPhase_iff.mp h).2.2]
  have hsingle : atPhase .write .wrSend s = true → s.op.count = 1 → (atPhase .write .wrSend s && s.op.count == 1) = true := fun h hcount => by
    rw [h, hcount]
    rfl
  have hmulti : atPhase .write .wrSend s = true → s.op.count ≠ 1 → (atPhase .write .wrSend s && s.op.count != 1) = true := fun h hcount => by
    rw [h, bne_iff_ne.mpr hcount]
    rfl
  have hpayload : s.peekList s.op.buf.space (blockAddress s.op 0) 512 = payload := peekList_eq_map s _ _ 512
  refine ⟨fun h hsource hcount => ?_, fun h hsource hcount => ?_, fun h hsource hspace => ?_, fun h => ?_⟩
  · rw [hexec, hsingle h hcount]
    exact sendWord_fault hfree ((hsend h).trans (wrSend_meaningless hsource))
  · show sendWord (atPhase .write .wrSend s && s.op.count != 1) s = _
    rw [hmulti h hcount]
    exact sendWord_fault hfree ((hsend h).trans (wrSend_meaningless hsource))
  · have hrun := (hsend h).trans (wrSend_eq hsource hspace)
    rw [hpayload, transmit_eq] at hrun
    clear hpayload
    have hqueue : ∀ (out : List Byte) (ok : Bool), (if ok = true then sent out .wrDresp else dropped).env.cbQueue = s.env.cbQueue := by
      intro out ok
      cases ok <;> rfl
    refine ⟨fun hcount => ?_, fun hcount => ?_⟩
    · rw [hexec]
      refine sendWord_write (c := .yield) hfree hnone (hrun.trans ?_) (hqueue _ _) (hsingle h hcount)
      rw [writeTokenByte, if_pos hcount]
      rfl
    · refine sendWord_write (c := .yield) hfree hnone (hrun.trans ?_) (hqueue _ _) (hmulti h hcount)
      rw [writeTokenByte, if_neg hcount]
      rfl
  · have hstop : sdHandler s = .ok (wrStopToken s) := by
      rw [sdHandler_atWrite h (hexamined (by decide) (by decide) h), writeHandler, (atPhase_iff.mp h).2.2]
    rw [wrStopToken, transmit_eq] at hstop
    refine sendWord_write (c := .yield) hfree hnone (hstop.trans rfl) ?_ h
    split <;> rfl

end Sys2Proof.Machine
end

section
/-! Receiving a block (42_block_io.md section 4): the bytes taken, the end of a block and of the CSD, and the overlapped CMD12. -/

namespace Sys2Proof.Machine

/-! ### Bytes taken -/

/-- Bytes counted, as `take` counts each (R286). -/
def countBytes (bytes : List Byte) (s : State) : State :=
  s.onOp fun o => { o with crc := bytes.foldl (fun c b => crc16UpdateByte c b) o.crc, byte := o.byte + BitVec.ofNat 16 bytes.length }

theorem countBytes_cons (b : Byte) (bytes : List Byte) (s : State) : countBytes bytes (countByte b s) = countBytes (b :: bytes) s := by
  have hbyte : s.op.byte + 1 + BitVec.ofNat 16 bytes.length = s.op.byte + BitVec.ofNat 16 (b :: bytes).length := by
    rw [BitVec.add_assoc, List.length_cons, Nat.add_comm bytes.length 1, BitVec.ofNat_add]
    rfl
  unfold countBytes countByte
  simp only [State.onOp, List.foldl_cons]
  rw [hbyte]

theorem countBytes_nil (s : State) : countBytes [] s = s := by
  have hbyte : s.op.byte + BitVec.ofNat 16 0 = s.op.byte := BitVec.add_zero _
  unfold countBytes
  simp only [State.onOp, List.foldl_nil, List.length_nil]
  rw [hbyte]

theorem toNat_byte_succ {x : U16} {n : Nat} (h : x.toNat + (n + 1) < 2 ^ 16) : (x + 1).toNat = x.toNat + 1 := by
  rw [BitVec.toNat_add]
  exact Nat.mod_eq_of_lt (show x.toNat + 1 < 2 ^ 16 by omega)

/-- The bytes of an operation's block: the payload is stored in order, and every byte counted (R286). -/
theorem takeBytes_payload {bytes : List Byte} {s : State} (hcsd : ¬readsCsd s) (hvalid : s.op.valid = true)
    (hfits : s.op.byte.toNat + bytes.length < 2 ^ 16)
    (hspace : ∀ j < bytes.length, s.op.byte.toNat + j < s.op.len.toNat →
      inSpace s.cfg s.op.buf.space (blockAddress s.op (s.op.byte.toNat + j)) 1 = true) :
    takeBytes bytes s = .ok (countBytes bytes
      (s.poke s.op.buf.space (blockAddress s.op s.op.byte.toNat) (bytes.take (s.op.len.toNat - s.op.byte.toNat)))) := by
  induction bytes generalizing s with
  | nil => rw [List.take_nil, State.poke_nil, countBytes_nil]; rfl
  | cons b bytes ih =>
    rw [List.length_cons] at hfits
    by_cases hlen : s.op.byte.toNat < s.op.len.toNat
    · have htake : takeByte b s = .ok (countByte b (s.poke s.op.buf.space (blockAddress s.op s.op.byte.toNat) [b])) := by
        have hhead : inSpace s.cfg s.op.buf.space (blockAddress s.op s.op.byte.toNat) [b].length = true := hspace 0 (Nat.succ_pos _) hlen
        rw [takeByte_payload hcsd hvalid hlen, writeBytes, if_pos hhead]
        rfl
      show (takeByte b s >>= takeBytes bytes) = _
      rw [htake]
      generalize hu : countByte b (s.poke s.op.buf.space (blockAddress s.op s.op.byte.toNat) [b]) = u
      have hbyte : u.op.byte.toNat = s.op.byte.toNat + 1 := by rw [← hu]; exact toNat_byte_succ (n := bytes.length) hfits
      have hop : u.op.len = s.op.len ∧ u.op.buf = s.op.buf ∧ (∀ k, blockAddress u.op k = blockAddress s.op k) ∧ u.cfg = s.cfg := by
        rw [← hu]
        exact ⟨rfl, rfl, fun _ => rfl, rfl⟩
      obtain ⟨hlen', hbuf, haddr, hcfg⟩ := hop
      refine (ih (s := u) (by rw [← hu]; exact hcsd) (by rw [← hu]; exact hvalid) (by omega) ?_).trans ?_
      · intro j hj hj'
        rw [hbyte, hlen'] at hj'
        rw [hbyte, hbuf, haddr, hcfg, Nat.add_right_comm]
        exact hspace (j + 1) (by rw [List.length_cons]; omega) (by omega)
      · have hdrop : (b :: bytes).take (s.op.len.toNat - s.op.byte.toNat) =
            [b] ++ bytes.take (s.op.len.toNat - (s.op.byte.toNat + 1)) := by
          obtain ⟨d, hd⟩ : ∃ d, s.op.len.toNat - s.op.byte.toNat = d + 1 := ⟨s.op.len.toNat - s.op.byte.toNat - 1, by omega⟩
          rw [hd, List.take_succ_cons, show s.op.len.toNat - (s.op.byte.toNat + 1) = d by omega]
          rfl
        rw [hbyte, hlen', hbuf, haddr, ← countBytes_cons, hdrop, ← State.poke_poke, ← hu]
        rfl
    · have htake : takeByte b s = .ok (countByte b s) := takeByte_crc hcsd hvalid hlen b
      have hbyte : (countByte b s).op.byte.toNat = s.op.byte.toNat + 1 := toNat_byte_succ (n := bytes.length) hfits
      have hnone : ∀ xs : List Byte, xs.take (s.op.len.toNat - s.op.byte.toNat) = [] := fun xs => by
        rw [show s.op.len.toNat - s.op.byte.toNat = 0 by omega, List.take_zero]
      have hrest : ∀ xs : List Byte, xs.take (s.op.len.toNat - (s.op.byte.toNat + 1)) = [] := fun xs => by
        rw [show s.op.len.toNat - (s.op.byte.toNat + 1) = 0 by omega, List.take_zero]
      show (takeByte b s >>= takeBytes bytes) = _
      rw [htake]
      refine (ih (s := countByte b s) hcsd hvalid (by omega) ?_).trans ?_
      · intro j hj hj'
        rw [hbyte] at hj'
        exact absurd (show s.op.byte.toNat + 1 + j < s.op.len.toNat from hj') (by omega)
      · rw [hbyte, hnone, State.poke_nil, ← countBytes_cons]
        exact congrArg (fun bs => Except.ok (countBytes bytes ((countByte b s).poke _ _ bs))) (hrest bytes) |>.trans (by rw [State.poke_nil])

/-- A block's space, byte by byte. -/
theorem inSpace_byte {p : Params} {sp : Space} {a n k : Nat} (h : inSpace p sp a n = true) (hk : k < n) : inSpace p sp (a + k) 1 = true := by
  simp only [inSpace, Bool.or_eq_true, beq_iff_eq, decide_eq_true_eq] at h ⊢
  omega

/-- A CSD buffer with bytes stored from an offset on. -/
theorem set_take_drop (old : List Byte) (k : Nat) (b : Byte) (bytes : List Byte) (hk : k < old.length) (m : Nat) :
    (old.set k b).take (k + 1) ++ bytes ++ (old.set k b).drop (k + 1 + m) = old.take k ++ b :: bytes ++ old.drop (k + 1 + m) := by
  have htake : (old.set k b).take (k + 1) = old.take k ++ [b] := by
    rw [List.take_set, List.take_add_one, List.getElem?_eq_getElem hk, Option.toList_some,
      List.set_append_right _ _ (by rw [List.length_take]; omega), List.length_take, Nat.min_eq_left (by omega), Nat.sub_self]
    rfl
  rw [htake, List.drop_set_of_lt (by omega), List.append_assoc (old.take k)]
  rfl

/-- The bytes of the CSD: the first 16 go to `CSD_BUF`, and every byte is counted (R243). -/
theorem takeBytes_csd {bytes : List Byte} {s : State} (hcsd : readsCsd s) (hlen : s.op.len = 16)
    (hfits : s.op.byte.toNat + bytes.length < 2 ^ 16) :
    ∃ buf : Vector Byte 16, takeBytes bytes s = .ok (countBytes bytes (s.onSd fun d => { d with csdBuf := buf })) ∧
      buf.toList = s.sd.csdBuf.toList.take s.op.byte.toNat ++ bytes.take (16 - s.op.byte.toNat) ++
        s.sd.csdBuf.toList.drop (s.op.byte.toNat + bytes.length) := by
  have hlength : ∀ v : Vector Byte 16, v.toList.length = 16 := fun v => v.length_toList
  have hsixteen : s.op.len.toNat = 16 := by rw [hlen]; rfl
  induction bytes generalizing s with
  | nil =>
    refine ⟨s.sd.csdBuf, by rw [countBytes_nil]; rfl, ?_⟩
    rw [List.take_nil, List.append_nil, List.length_nil, Nat.add_zero, List.take_append_drop]
  | cons b bytes ih =>
    rw [List.length_cons] at hfits
    have htake := takeByte_csd hcsd b
    rw [hsixteen] at htake
    show ∃ buf, (takeByte b s >>= takeBytes bytes) = _ ∧ _
    rw [htake]
    by_cases hk : s.op.byte.toNat < 16
    · rw [if_pos hk]
      generalize hu : countByte b (s.onSd fun d => { d with csdBuf := d.csdBuf.setIfInBounds s.op.byte.toNat b }) = u
      have hbyte : u.op.byte.toNat = s.op.byte.toNat + 1 := by rw [← hu]; exact toNat_byte_succ (n := bytes.length) hfits
      have hbuf : u.sd.csdBuf.toList = s.sd.csdBuf.toList.set s.op.byte.toNat b := by rw [← hu]; simp [countByte]
      obtain ⟨buf, hrun, hstored⟩ := ih (s := u) (by rw [← hu]; exact hcsd) (by rw [← hu]; exact hlen) (by omega) (by rw [← hu]; exact hsixteen)
      refine ⟨buf, hrun.trans ?_, ?_⟩
      · rw [← countBytes_cons, ← hu]
        rfl
      · rw [hstored, hbyte, hbuf, set_take_drop _ _ _ _ (by rw [hlength]; exact hk), List.length_cons]
        obtain ⟨d, hd⟩ : ∃ d, 16 - s.op.byte.toNat = d + 1 := ⟨16 - s.op.byte.toNat - 1, by omega⟩
        rw [hd, List.take_succ_cons, show 16 - (s.op.byte.toNat + 1) = d by omega,
          show s.op.byte.toNat + 1 + bytes.length = s.op.byte.toNat + (bytes.length + 1) by omega]
    · rw [if_neg hk]
      have hbyte : (countByte b s).op.byte.toNat = s.op.byte.toNat + 1 := toNat_byte_succ (n := bytes.length) hfits
      obtain ⟨buf, hrun, hstored⟩ := ih (s := countByte b s) hcsd hlen (by omega) hsixteen
      refine ⟨buf, hrun.trans ?_, ?_⟩
      · rw [← countBytes_cons]
        rfl
      · rw [hstored, hbyte]
        show s.sd.csdBuf.toList.take (s.op.byte.toNat + 1) ++ _ ++ s.sd.csdBuf.toList.drop _ = _
        rw [List.take_of_length_le (by rw [hlength]; omega), List.take_of_length_le (i := s.op.byte.toNat) (by rw [hlength]; omega),
          List.drop_of_length_le (by rw [hlength]; omega), List.drop_of_length_le (by rw [hlength, List.length_cons]; omega),
          show 16 - (s.op.byte.toNat + 1) = 0 by omega, show 16 - s.op.byte.toNat = 0 by omega]
        rfl

/-! ### The end of a block -/

/-- A receive that completes hands its bytes to the block (R278). -/
theorem deliver_received {s u : State} (hrole : s.sd.xferRole = .payload ∨ s.sd.xferRole = .payloadStop)
    (htake : takeBytes s.env.inBytes s = .ok u) : deliver s = .ok { u with sd := { u.sd with xferPending := false, tAnchor := s.env.now } } := by
  have htook := took_takeBytes htake
  have hsearch : u.sd.xferRole ≠ .search := by
    rw [htook.sd]
    dsimp only
    rcases hrole with h | h <;> rw [h] <;> decide
  rw [deliver_payload hrole, htake, ← htook.env]
  show Except.ok (delivered u) = _
  unfold delivered
  simp only [State.onSd]
  rw [if_neg hsearch]

/-- With nothing left to receive, `RD_DATA` ends the block (R286). -/
theorem rdData_received {s : State} (hneed : blockNeed s.op = 0) :
    rdData s = .ok (.again, if s.cfg.useCrc && s.op.crc != 0 then raise .readCrc s else blockReceived s) := by
  have hsame : (s.onSd fun d => { d with rxRetain := d.rxRetain.drop 0 }) = s := rfl
  rw [rdData_eq, hneed, List.take_zero, hsame]
  show Except.ok (receiveRest 0 s) = _
  unfold receiveRest
  rw [if_pos rfl]
  split <;> rfl

theorem crcWrong_iff {s : State} : (s.cfg.useCrc && s.op.crc != 0) = true ↔ s.cfg.useCrc = true ∧ s.op.crc ≠ 0 := by
  simp

/-- The CRC of the block is right, or none is checked. -/
theorem crcRight {s : State} (h : s.cfg.useCrc = false ∨ s.op.crc = 0) : ¬((s.cfg.useCrc && s.op.crc != 0) = true) := by
  rw [crcWrong_iff]
  rintro ⟨huse, hcrc⟩
  rcases h with h | h
  · rw [h] at huse
    cases huse
  · exact hcrc h

/-- What follows a block of an operation received whole (R286): the next token, the stop after the final block of many, or the end. -/
theorem blockReceived_cases {s : State} (hstate : s.sd.state ≠ .init) :
    (s.op.idx + 1 < s.op.count → blockReceived s = { s with
      op := { s.op with done := s.op.idx + 1, idx := s.op.idx + 1 }, sd := { s.sd with opPhase := .rdToken, tAnchor := s.env.now } }) ∧
    (¬s.op.idx + 1 < s.op.count → s.op.count ≠ 1 → blockReceived s = { s with
      op := { s.op with done := s.op.idx + 1 }, sd := { s.sd with opPhase := .rdStop, tAnchor := s.env.now } }) ∧
    (¬s.op.idx + 1 < s.op.count → s.op.count = 1 →
      blockReceived s = finish true .ready { s with op := { s.op with done := s.op.idx + 1 } }) := by
  unfold blockReceived
  rw [if_neg hstate]
  exact ⟨fun hmore => if_pos hmore, fun hlast hmany => (if_neg hlast).trans (if_neg hmany), fun hlast hone => (if_neg hlast).trans (if_pos hone)⟩

/-- A wrong CRC of a block of an operation (R503). -/
theorem raise_rdData {s : State} (hstate : s.sd.state ≠ .init) (hphase : s.sd.opPhase = .rdData) (e : Err) :
    (1 < s.op.count → s.op.idx ≠ s.op.count - 1 →
      raise e s = { withError e s with sd := { s.sd with opPhase := .rdAbort, cmdPh := .idle } }) ∧
    (1 < s.op.count → s.op.idx = s.op.count - 1 →
      raise e s = { withError e s with sd := { s.sd with opPhase := .rdStop, tAnchor := s.env.now } }) ∧
    (s.op.count = 1 → raise e s = finish false .ready (withError e s)) := by
  have hraise : raise e s = raiseFrom .rdData (withError e s) := by
    rw [raise_of_ne_init hstate, hphase]
    rfl
  have hfinal : finalOfMany (withError e s).op = true ↔ 1 < s.op.count ∧ s.op.idx = s.op.count - 1 := finalOfMany_iff _
  rw [hraise, raiseFrom]
  refine ⟨fun hmany hnot => ?_, fun hmany hlast => if_pos (hfinal.mpr ⟨hmany, hlast⟩), fun hone => ?_⟩
  · have hcount : s.op.count ≠ 1 := fun h => absurd (h ▸ hmany) (by decide)
    rw [if_neg fun h => hnot (hfinal.mp h).2]
    exact abortTo_many (s := withError e s) hcount _
  · rw [if_neg fun h => absurd (hone ▸ (hfinal.mp h).1) (by decide)]
    exact abortTo_single (s := withError e s) hone _

/-- `RD_DATA` ends no command. -/
theorem respMeaningless_rdData {s : State} (hphase : atPhase .read .rdData s = true) : respMeaningless s = false := by
  obtain ⟨hstate, _, hop⟩ := atPhase_iff.mp hphase
  refine respMeaningless_of_examined ?_
  rw [respExamined, hstate]
  dsimp only
  rw [hop]
  rfl

theorem ofNat_toNat_add {x : U16} {n m : Nat} (h : x.toNat + n = m) : x + BitVec.ofNat 16 n = BitVec.ofNat 16 m := by
  rw [← h, BitVec.ofNat_add, BitVec.ofNat_toNat, BitVec.setWidth_eq]

/-- Settles O31: the rest of the payload is delivered, then the block ends. -/
theorem blockReceived_settled : Obligations.BlockReceived := by
  intro s hnone hcard hpending hdone hrole hphase hretain hlen hbytes start hspace crc t counted
  obtain ⟨hstate, hvalid, hop⟩ := atPhase_iff.mp hphase
  have hinit : s.sd.state ≠ .init := by rw [hstate]; decide
  have hlength : s.op.len.toNat = 512 := by rw [hlen]; rfl
  have htake := takeBytes_payload (s := s) (bytes := s.env.inBytes) (fun h => hinit h.2) hvalid (by omega) fun j hj hj' => by
    have hj' : j < 512 - s.op.byte.toNat := by omega
    have haddr : blockAddress s.op (s.op.byte.toNat + j) = start + j := (Nat.add_assoc _ _ _).symm
    rw [haddr]
    exact inSpace_byte hspace hj'
  have hdeliver : deliver s = .ok t := by
    rw [deliver_received hrole htake, hlength]
    unfold countBytes
    simp only [State.onOp]
    rw [ofNat_toNat_add (by exact hbytes)]
    rfl
  have hbody : pollBody s = .ok (.again, if t.cfg.useCrc && t.op.crc != 0 then raise .readCrc t else blockReceived t) := by
    rw [pollBody_delivered hpending hdone hdeliver, removalOrHandler_present (s := t) hcard,
      sdHandler_atRead (s := t) hphase (respMeaningless_rdData (s := t) hphase), readHandler, show t.sd.opPhase = .rdData from hop]
    refine rdData_received (s := t) ?_
    rw [blockNeed, show t.op.len.toNat = 512 from hlength]
    rfl
  have hqueue : t.env.cbQueue = s.env.cbQueue := rfl
  refine ⟨fun hright => ?_, fun huse hwrong => ?_⟩
  · rw [if_neg (crcRight (s := t) hright)] at hbody
    obtain ⟨hmore, hstop, hend⟩ := blockReceived_cases (s := t) hinit
    refine ⟨fun h => ?_, fun h hmany => ?_, fun h hone hquiet => ?_⟩
    · rw [hmore h] at hbody
      exact pollRound_quiet hbody hqueue hnone
    · rw [hstop h hmany] at hbody
      exact pollRound_quiet hbody hqueue hnone
    · rw [hend h hone] at hbody
      exact pollRound_finish hbody rfl rfl hquiet
  · rw [if_pos (crcWrong_iff (s := t).mpr ⟨huse, hwrong⟩)] at hbody
    obtain ⟨habort, hstop, hend⟩ := raise_rdData (s := t) hinit hop .readCrc
    refine ⟨fun hmany h => ?_, fun hmany h => ?_, fun hone hquiet => ?_⟩
    · rw [habort hmany h] at hbody
      exact pollRound_quiet hbody hqueue hnone
    · rw [hstop hmany h] at hbody
      exact pollRound_quiet hbody hqueue hnone
    · rw [hend hone] at hbody
      exact pollRound_finish hbody rfl rfl hquiet

/-! ### The end of the CSD -/

theorem capCapacity_eq (blockAddr : Bool) (capacity : U32) : capCapacity blockAddr capacity =
    if blockAddr = false ∧ 2 ^ 23 < capacity.toNat then BitVec.ofNat 32 (2 ^ 23) else capacity := by
  unfold capCapacity
  cases blockAddr
  · exact if_congr (by simp) rfl rfl
  · rfl

/-- The end of the CSD read: its capacity, or an unknown structure (R243, R244). -/
theorem blockReceived_csd {s : State} (hstate : s.sd.state = .init) :
    (∀ capacity, csdCapacityOf s.sd.csdBuf.toList = some capacity → blockReceived s = { s with sd := { s.sd with
      session := false, opPhase := .none, retryCnt := 0, initStep := .cmd16
      capacity := if s.sd.blockAddr = false ∧ 2 ^ 23 < capacity.toNat then BitVec.ofNat 32 (2 ^ 23) else capacity } }) ∧
    (csdCapacityOf s.sd.csdBuf.toList = none → blockReceived s = { s with sd := { s.sd with
      session := false, opPhase := .none, lastErr := .csdVersion, state := .unusable } }) := by
  have hdecode : blockReceived s = csdDecode (endCsdRead s) := if_pos hstate
  have hbuf : (endCsdRead s).sd.csdBuf = s.sd.csdBuf := rfl
  rw [hdecode, csdDecode, hbuf]
  refine ⟨fun capacity h => ?_, fun h => ?_⟩
  · rw [h, ← capCapacity_eq]
    rfl
  · rw [h]
    rfl

/-- Settles O32: the rest of the CSD is delivered, then it is decoded. -/
theorem csdReceived : Obligations.CsdReceived := by
  intro s hnone hcard hpending hdone hrole hcsd hphase hretain hlen hbyte hbytes csd crc
  obtain ⟨hstate, hstep⟩ := atInit_iff.mp hcsd
  obtain ⟨buf, htake, hstored⟩ := takeBytes_csd (bytes := s.env.inBytes) ⟨hstep, hstate⟩ hlen (by omega)
  have hlist : buf.toList = csd := by
    rw [hstored, List.drop_of_length_le (by rw [Vector.length_toList]; omega), List.append_nil]
  refine ⟨buf, hlist, ?_⟩
  intro t
  generalize hu : { s with
    op := { s.op with byte := 18, crc := crc }, sd := { s.sd with csdBuf := buf, xferPending := false, tAnchor := s.env.now } } = u
  have hdeliver : deliver s = .ok u := by
    rw [deliver_received (.inl hrole) htake, ← hu]
    unfold countBytes
    simp only [State.onOp, State.onSd]
    rw [ofNat_toNat_add hbytes]
    rfl
  have hstate' : u.sd.state = .init := by rw [← hu]; exact hstate
  have hbody : pollBody s = .ok (.again, if u.cfg.useCrc && u.op.crc != 0 then raise .readCrc u else blockReceived u) := by
    have hexamined : respExamined u = 0 := by
      rw [respExamined, hstate', ← hu]
      dsimp only
      rw [hstep]
    have hrun : sdHandler u = rdData u := by
      rw [sdHandler_init hstate' (respMeaningless_of_examined hexamined), initHandler, ← hu]
      dsimp only
      rw [hstep]
      dsimp only
      rw [initCsd]
      dsimp only
      rw [hphase]
    rw [pollBody_delivered hpending hdone hdeliver, removalOrHandler_present (by rw [← hu]; exact hcard), hrun]
    refine rdData_received ?_
    rw [blockNeed, ← hu]
    dsimp only
    rw [hlen]
    rfl
  have hcrc : u.op.crc = crc ∧ u.cfg = s.cfg ∧ u.sd.csdBuf = buf := by rw [← hu]; exact ⟨rfl, rfl, rfl⟩
  obtain ⟨hcrc, hcfg, hbuf⟩ := hcrc
  refine ⟨fun hright => ?_, fun huse hwrong => ?_⟩
  · rw [if_neg (crcRight (s := u) (by rw [hcfg, hcrc]; exact hright))] at hbody
    obtain ⟨hknown, hunknown⟩ := blockReceived_csd hstate'
    rw [hbuf, hlist] at hknown hunknown
    refine ⟨fun capacity h => ?_, fun h => ?_⟩
    · rw [hknown capacity h, ← hu] at hbody
      exact pollRound_quiet hbody rfl hnone
    · rw [hunknown h, ← hu] at hbody
      exact pollRound_quiet hbody rfl hnone
  · rw [if_pos (crcWrong_iff.mpr ⟨by rw [hcfg]; exact huse, by rw [hcrc]; exact hwrong⟩), raise_of_init hstate',
      initFail_eq_stepFailed] at hbody
    have hended : ((endCsdRead u).onSd fun d => { d with rxRetain := [], rxSkip := false }) = { t with sd := { t.sd with rxSkip := false } } := by
      rw [← hu]
      simp [endCsdRead, State.onSd, t, hretain]
    rw [hended] at hbody
    exact pollRound_quiet hbody rfl hnone

/-! ### The overlapped CMD12 -/

theorem stopFrame_eq : stopFrame = [0x4C, 0, 0, 0, 0, 0x61] := by decide +kernel

/-- The receive of the final block of many carries CMD12 in its last six out-bytes (R287). -/
theorem receiveOut_overlap {n : Nat} (h : 6 ≤ n) : receiveOut true n = List.replicate (n - 6) 0xFF ++ [0x4C, 0, 0, 0, 0, 0x61] := by
  rw [receiveOut, if_pos rfl, show 6 - n = 0 by omega, List.drop_zero, stopFrame_eq]
  rfl

theorem receiveRest_overlap {s : State} {left : Nat} (hleft : 6 ≤ left) (hstate : s.sd.state = .read) (hfinal : finalOfMany s.op = true) :
    receiveRest left s = (.yield,
      if s.env.submitOk then
        let t := transacting (List.replicate (left - 6) 0xFF ++ [0x4C, 0, 0, 0, 0, 0x61]) .payloadStop s
        { t with sd := { t.sd with rxSkip := true } }
      else s) := by
  unfold receiveRest
  rw [if_neg (by omega), hstate, hfinal, if_pos (by decide), receiveOut_overlap hleft]
  rcases submit_cases (List.replicate (left - 6) 0xFF ++ [0x4C, 0, 0, 0, 0, 0x61]) .payloadStop s with ⟨hok, e⟩ | ⟨hok, e⟩ <;>
    rw [e, hok] <;> rfl

/-- Settles O37: the retained bytes are taken, then the receive with the overlap is submitted. -/
theorem stopCommandOverlaps : Obligations.StopCommandOverlaps := by
  intro s crc hcrc hfree hnone hphase hmany hlast hlen hbyte hretain start hspace out t
  obtain ⟨hstate, hvalid, hop⟩ := atPhase_iff.mp hphase
  have hinit : s.sd.state ≠ .init := by rw [hstate]; decide
  have hfinal : finalOfMany s.op = true := (finalOfMany_iff _).mpr ⟨hmany, hlast⟩
  have hlength : s.op.len.toNat = 512 := by rw [hlen]; rfl
  have hzero : s.op.byte.toNat = 0 := by rw [hbyte]; rfl
  have hneed : blockNeed s.op = 514 := by rw [blockNeed, hlength, hzero]
  have hall : s.sd.rxRetain.take 514 = s.sd.rxRetain := List.take_of_length_le (by omega)
  have hnothing : s.sd.rxRetain.drop 514 = [] := List.drop_of_length_le (by omega)
  have htake : takeBytes s.sd.rxRetain (s.onSd fun d => { d with rxRetain := d.rxRetain.drop 514 }) = .ok t := by
    rw [takeBytes_payload (s := s.onSd fun d => { d with rxRetain := d.rxRetain.drop 514 }) (fun h => hinit h.2) hvalid
      (by rw [State.onSd_op, hzero]; omega) ?_]
    · rw [State.onSd_op, hlength, hzero, List.take_of_length_le (by omega)]
      have hcount : s.op.byte + BitVec.ofNat 16 s.sd.rxRetain.length = BitVec.ofNat 16 s.sd.rxRetain.length :=
        ofNat_toNat_add (by rw [hzero, Nat.zero_add])
      unfold countBytes
      simp only [State.onOp, State.onSd, hnothing, State.poke_op]
      rw [hcount]
      rfl
    · intro j hj _
      rw [State.onSd_op, hzero, Nat.zero_add]
      exact inSpace_byte hspace hj
  have hrun : sdHandler s = .ok (.yield, if s.env.submitOk then
      { transacting out .payloadStop t with sd := { (transacting out .payloadStop t).sd with rxSkip := true } } else t) := by
    rw [sdHandler_atRead hphase (respMeaningless_rdData hphase), readHandler, hop]
    dsimp only
    rw [rdData_eq, hneed, hall, htake]
    show Except.ok (receiveRest _ t) = _
    rw [receiveRest_overlap (s := t) (by omega) hstate hfinal]
    rw [show 514 - s.sd.rxRetain.length - 6 = 508 - s.sd.rxRetain.length by omega]
    rfl
  have hsel : exec (.cmd12 crc) s = sendWord true s := by
    have hstop : sendsStop s = true := by rw [sendsStop, hphase, hfinal, Bool.and_self, Bool.or_true]
    show sendWord (sendsStop s && crcMatches 12 0 crc) s = _
    rw [hstop, show crcMatches 12 0 crc = true from hcrc]
    rfl
  rw [hsel]
  refine ⟨fun hok => ?_, fun hok => ?_⟩
  · rw [hok] at hrun
    exact sendWord_quiet hfree hrun rfl hnone
  · rw [hok] at hrun
    exact sendWord_quiet hfree hrun rfl hnone

end Sys2Proof.Machine
end

section
/-! The service poll (42_block_io.md sections 2, 6, 41_card_init.md section 1): its rounds one after another. -/

namespace Sys2Proof.Machine

/-! ### Rounds -/

theorem pollLoop_yield {s t : State} (h : pollRound s = .ok (.yield, t)) (n : Nat) : pollLoop (n + 1) s = .ok t := by
  rw [pollLoop, h]
  rfl

theorem pollLoop_again {s t : State} (h : pollRound s = .ok (.again, t)) (n : Nat) : pollLoop (n + 1) s = pollLoop n t := by
  rw [pollLoop, h]
  rfl

/-- A poll that is over after a few rounds. -/
theorem exec_sdService {s t : State} {now : U32} {cardDetect : Bool} (h : ∀ n, pollLoop (n + 3) (polled now cardDetect s) = .ok t) :
    exec (.sdService now cardDetect) s = .next (putRet .none t) := by
  obtain ⟨n, hn⟩ : ∃ n, pollBound s = n + 3 := ⟨61 + 8 * (s.sd.rxRetain.length + s.env.inBytes.length), by rw [pollBound]; omega⟩
  show toOutcome ((pollLoop (pollBound s) (polled now cardDetect s)).map (putRet .none)) = _
  rw [hn, h]
  rfl

theorem polled_cardDetect (now : U32) (cardDetect : Bool) (s : State) : (polled now cardDetect s).env.cardDetect = present cardDetect s := rfl

/-- With no transaction pending a round is removal or the handler (R305). -/
theorem pollBody_settled {s : State} (h : s.sd.xferPending = false) : pollBody s = removalOrHandler s := by
  have hgo : ¬((s.sd.xferPending && !s.env.done) = true) := by rw [h, Bool.false_and]; decide
  have hnone : ¬(s.sd.xferPending = true) := by rw [h]; decide
  unfold pollBody
  rw [if_neg hgo, if_neg hnone]
  rfl

theorem removalOrHandler_absent {s : State} (h : s.sd.state = .absent) : removalOrHandler s = sdHandler s :=
  if_neg (by rw [h]; cases s.env.cardDetect <;> decide)

theorem removalOrHandler_removed {s : State} (hcard : s.env.cardDetect = false) (hstate : s.sd.state ≠ .absent) :
    removalOrHandler s = .ok (.again, removal s) :=
  if_pos (by rw [hcard, bne_iff_ne.mpr hstate]; rfl)

/-- Outside initialisation and the operations no response is examined. -/
theorem respMeaningless_of_still {s : State} (hinit : s.sd.state ≠ .init) (hread : s.sd.state ≠ .read) (hwrite : s.sd.state ≠ .write) :
    respMeaningless s = false := by
  refine respMeaningless_of_examined ?_
  unfold respExamined
  cases hstate : s.sd.state with
  | init => exact absurd hstate hinit
  | read => exact absurd hstate hread
  | write => exact absurd hstate hwrite
  | absent | ready | failRetries | unusable | failed => rfl

theorem sdHandler_still {s : State} (h : s.sd.state ∈ [SdState.ready, .failRetries, .unusable, .failed]) : sdHandler s = .ok (.yield, s) := by
  simp only [List.mem_cons, List.not_mem_nil, or_false] at h
  rcases h with h | h | h | h
  all_goals
    rw [sdHandler, respMeaningless_of_still (by rw [h]; decide) (by rw [h]; decide) (by rw [h]; decide), h]
    rfl

theorem sdHandler_absent {s : State} (h : s.sd.state = .absent) :
    sdHandler s = .ok (if s.env.cardDetect then (.again, enterInit s) else (.yield, s)) := by
  rw [sdHandler, respMeaningless_of_still (by rw [h]; decide) (by rw [h]; decide) (by rw [h]; decide), h]
  cases s.env.cardDetect <;> rfl

/-- A ready or terminal engine with its card ends the poll. -/
theorem pollRound_still {s : State} (hpending : s.sd.xferPending = false) (hcard : s.env.cardDetect = true)
    (hstate : s.sd.state ∈ [SdState.ready, .failRetries, .unusable, .failed]) (hnone : s.env.cbQueue = none) :
    pollRound s = .ok (.yield, s) :=
  pollRound_quiet (by rw [pollBody_settled hpending, removalOrHandler_present hcard, sdHandler_still hstate]) rfl hnone

/-- No card, and none was there: the poll ends. -/
theorem pollRound_gone {s : State} (hpending : s.sd.xferPending = false) (hcard : s.env.cardDetect = false) (hstate : s.sd.state = .absent)
    (hnone : s.env.cbQueue = none) : pollRound s = .ok (.yield, s) :=
  pollRound_quiet (by rw [pollBody_settled hpending, removalOrHandler_absent hstate, sdHandler_absent hstate, hcard]; rfl) rfl hnone

/-- Settles O27: in each case the first round yields with nothing changed. -/
theorem sdServiceIdle : Obligations.SdServiceIdle := by
  intro s now cardDetect hnone h
  have hround : pollRound (polled now cardDetect s) = .ok (.yield, polled now cardDetect s) := by
    rcases h with ⟨hpending, hdone⟩ | ⟨hpending, hcard, hstate⟩ | ⟨hpending, hcard, hstate⟩
    · exact pollRound_quiet (s := polled now cardDetect s) (pollBody_waiting hpending hdone) rfl hnone
    · exact pollRound_still (s := polled now cardDetect s) hpending hcard hstate hnone
    · exact pollRound_gone (s := polled now cardDetect s) hpending hcard hstate hnone
  exact exec_sdService fun n => pollLoop_yield hround (n + 2)

/-! ### Insertion and removal -/

/-- Step `I_CLOCKS` submits the power-up clocks, or stays (R231). -/
theorem initClocks_eq (s : State) : initClocks s = (.yield,
    if s.env.submitOk then
      let t := transacting (List.replicate s.cfg.initClockBytes 0xFF) .echo s
      { t with sd := { t.sd with initStep := .cmd0, retryCnt := 0 } }
    else s) := by
  unfold initClocks
  rcases submit_cases (List.replicate s.cfg.initClockBytes Config.fill) .echo s with ⟨hok, e⟩ | ⟨hok, e⟩ <;> rw [e, hok] <;> rfl

theorem pollRound_clocks {s : State} (hpending : s.sd.xferPending = false) (hcard : s.env.cardDetect = true) (hstate : s.sd.state = .init)
    (hstep : s.sd.initStep = .clocks) (hnone : s.env.cbQueue = none) : pollRound s = .ok (initClocks s) := by
  have hexamined : respExamined s = 0 := by rw [respExamined, hstate, hstep]
  have hbody : pollBody s = .ok (initClocks s) := by
    rw [pollBody_settled hpending, removalOrHandler_present hcard, sdHandler_init hstate (respMeaningless_of_examined hexamined),
      initHandler, hstep]
  rw [initClocks_eq] at hbody ⊢
  refine pollRound_quiet hbody ?_ hnone
  split <;> rfl

/-- A removal leaves the engine absent: the poll is over. -/
theorem pollLoop_gone {s t : State} (hround : pollRound s = .ok (.again, t)) (hpending : t.sd.xferPending = false)
    (hcard : t.env.cardDetect = false) (hstate : t.sd.state = .absent) (hnone : t.env.cbQueue = none) (n : Nat) :
    pollLoop (n + 3) s = .ok t :=
  (pollLoop_again hround (n + 2)).trans (pollLoop_yield (pollRound_gone hpending hcard hstate hnone) (n + 1))

/-- Removal with no operation outstanding (R305). -/
theorem removal_free {s : State} (h : s.op.valid = false) : removal s = { s with sd := { s.sd with
    capacity := 0, session := false, rxRetain := [], rxSkip := false, cmdPh := .idle, opPhase := .none
    lastErr := .cardRemoved, state := .absent } } :=
  if_neg (by rw [State.onSd_op, h]; decide)

/-- Removal ends the outstanding operation failed. -/
theorem removal_operation {s : State} (h : s.op.valid = true) : removal s =
    finish false .absent { s with sd := { s.sd with capacity := 0 }, op := { s.op with err := .cardRemoved } } :=
  if_pos (by rw [State.onSd_op, h])

/-- Settles O28: two rounds each, the second the clocks' or the absent engine's. -/
theorem insertionAndRemoval : Obligations.InsertionAndRemoval := by
  refine ⟨fun s now cardDetect hnone hpending hcard hstate => ?_, fun s now cardDetect hnone hpending hcard hstate => ⟨fun hvalid => ?_, fun hvalid hquiet => ?_⟩⟩
  · intro t
    have henter : pollRound (polled now cardDetect s) = .ok (.again, t) := by
      refine pollRound_quiet (s := polled now cardDetect s) ?_ rfl hnone
      rw [pollBody_settled (s := polled now cardDetect s) hpending, removalOrHandler_absent (s := polled now cardDetect s) hstate,
        sdHandler_absent (s := polled now cardDetect s) hstate, polled_cardDetect, hcard]
      rfl
    have hclocks : pollRound t = .ok (initClocks t) := pollRound_clocks (s := t) hpending hcard rfl rfl hnone
    rw [initClocks_eq] at hclocks
    have hloop : ∀ n, pollLoop (n + 3) (polled now cardDetect s) = .ok _ := fun n =>
      (pollLoop_again henter (n + 2)).trans (pollLoop_yield hclocks (n + 1))
    refine ⟨fun hok => ?_, fun hok => ?_⟩
    · rw [exec_sdService hloop, if_neg (by rw [show t.env.submitOk = false from hok]; decide)]
    · rw [exec_sdService hloop, if_pos (show t.env.submitOk = true from hok)]
      rfl
  · have hremoved : pollRound (polled now cardDetect s) = .ok (.again, removal (polled now cardDetect s)) := by
      refine pollRound_quiet (s := polled now cardDetect s) ?_ (by rw [removal_free (s := polled now cardDetect s) hvalid]) hnone
      rw [pollBody_settled (s := polled now cardDetect s) hpending, removalOrHandler_removed (s := polled now cardDetect s) hcard hstate]
    rw [removal_free (s := polled now cardDetect s) hvalid] at hremoved
    exact exec_sdService (pollLoop_gone hremoved hpending hcard rfl hnone)
  · have hremoved : pollRound (polled now cardDetect s) = .ok (.again, finished false .absent
        { polled now cardDetect s with sd := { s.sd with capacity := 0 }, op := { s.op with err := .cardRemoved } }) := by
      refine pollRound_finish (s := polled now cardDetect s) ?_ rfl rfl hquiet
      rw [pollBody_settled (s := polled now cardDetect s) hpending, removalOrHandler_removed (s := polled now cardDetect s) hcard hstate,
        removal_operation (s := polled now cardDetect s) hvalid]
      rfl
    rw [exec_sdService (pollLoop_gone hremoved hpending hcard rfl rfl)]
    refine congrArg (fun s => Host.Outcome.next (putRet .none s)) ?_
    simp [finished, polled, hnone]

/-! ### A single-block read -/

/-- A read's end leaves the engine ready: the poll is over. -/
theorem pollLoop_finished {s u : State} {success : Bool} (hround : pollRound s = .ok (.again, finished success .ready u))
    (hpending : u.sd.xferPending = false) (hcard : u.env.cardDetect = true) (n : Nat) :
    pollLoop (n + 2) s = .ok (finished success .ready u) :=
  (pollLoop_again hround (n + 1)).trans
    (pollLoop_yield (pollRound_still (s := finished success .ready u) hpending hcard List.mem_cons_self rfl) n)

theorem putRet_none_env (s : State) : (putRet .none s).env.callbacks = s.env.callbacks := by
  rw [putRet_env]

/-- The bytes a block's store leaves: its own, and no others changed. -/
theorem peek_stored {s u : State} {a : Nat} {bytes : List Byte} (hmem : u.mem = (s.poke .host a (bytes.take 512)).mem)
    (hwf : s.mem.host.wf = true) (hlength : 512 ≤ bytes.length) :
    (∀ k, k < 512 → u.peek .host (a + k) = byteAt bytes k) ∧
    (∀ sp x, sp ≠ .host ∨ x < a ∨ a + 512 ≤ x → u.peek sp x = s.peek sp x) := by
  have htake : (bytes.take 512).length = 512 := by rw [List.length_take]; omega
  have hpeek : ∀ sp x, u.peek sp x = (s.poke .host a (bytes.take 512)).peek sp x := fun sp x => by rw [State.peek, hmem]; rfl
  refine ⟨fun k hk => ?_, fun sp x hx => ?_⟩
  · rw [hpeek, peek_poke (s := s) (sp := .host) hwf (by rw [htake]; exact hk), byteAt, byteAt, List.getD_eq_getElem?_getD, List.getD_eq_getElem?_getD,
      List.getElem?_take_of_lt hk]
  · rw [hpeek, State.peek_poke_outside _ _ _ _ _ _ (by rw [htake]; exact hx)]

/-- A client's read that ends: the engine is ready, and the callback is the operation's. -/
theorem readEnds {s u : State} {now : U32} {cardDetect : Bool} {success : Bool}
    (hround : pollRound (polled now cardDetect s) = .ok (.again, finished success .ready u))
    (hpending : u.sd.xferPending = false) (hcard : u.env.cardDetect = true) :
    ∃ t, exec (.sdService now cardDetect) s = .next t ∧ t.sd = (finished success .ready u).sd ∧ t.op.valid = false ∧ t.mem = u.mem ∧
      t.lg = u.lg ∧ t.sh = u.sh ∧
      t.env.callbacks = u.env.callbacks ++ [⟨u.op.cb, u.op.ctx, if success then 0 else 1, u.op.done⟩] :=
  ⟨_, exec_sdService fun n => pollLoop_finished hround hpending hcard (n + 1), rfl, rfl, rfl, rfl, rfl, putRet_none_env _⟩

/-- Settles O30: the round of `BlockReceived`, then the engine is ready. -/
theorem singleBlockReadEnds : Obligations.SingleBlockReadEnds := by
  intro s now cardDetect hnone hcard hwf hpending hdone hrole hbytes hphase hretain hlen hbyte hcrc hidx hcount herr hdonecount hspace
    hreadable hquiet
  have hzero : s.op.byte.toNat = 0 := by rw [hbyte]; rfl
  have hstart : s.op.buf.addr.toNat + (s.op.idx * 512).toNat + 0 = s.op.buf.addr.toNat := by rw [hidx]; rfl
  have hlast : ¬s.op.idx + 1 < s.op.count := by rw [hidx, hcount]; decide
  obtain ⟨hright, hwrong⟩ := blockReceived_settled (polled now cardDetect s) hnone hcard hpending hdone (.inl hrole) hphase hretain hlen
    (show s.op.byte.toNat + s.env.inBytes.length = 514 by omega)
    (show inSpace s.cfg s.op.buf.space (s.op.buf.addr.toNat + (s.op.idx * 512).toNat + s.op.byte.toNat) (512 - s.op.byte.toNat) = true by
      rw [hspace, hzero, hstart]; exact hreadable)
  simp only [show (polled now cardDetect s).op = s.op from rfl, show (polled now cardDetect s).env.inBytes = s.env.inBytes from rfl,
    show (polled now cardDetect s).cfg = s.cfg from rfl, hspace, hzero, hstart, hcrc] at hright hwrong
  have hend : ∀ (success : Bool) (u : State), pollRound (polled now cardDetect s) = .ok (.again, finished success .ready u) →
      u.sd.xferPending = false → u.env.cardDetect = true → u.mem = (s.poke .host s.op.buf.addr.toNat (s.env.inBytes.take 512)).mem →
      u.lg = s.lg ∧ u.sh = s.sh → u.op.cb = s.op.cb ∧ u.op.ctx = s.op.ctx ∧ u.env.callbacks = s.env.callbacks →
      ∃ t, exec (.sdService now cardDetect) s = .next t ∧
        t.sd.state = .ready ∧ t.sd.session = false ∧ t.sd.xferPending = false ∧ t.op.valid = false ∧
        (∀ k, k < 512 → t.peek .host (s.op.buf.addr.toNat + k) = byteAt s.env.inBytes k) ∧
        (∀ sp a, sp ≠ .host ∨ a < s.op.buf.addr.toNat ∨ s.op.buf.addr.toNat + 512 ≤ a → t.peek sp a = s.peek sp a) ∧
        t.lg = s.lg ∧ t.sh = s.sh ∧ t.sd.lastErr = (if success then u.sd.lastErr else u.op.err) ∧
        t.env.callbacks = s.env.callbacks ++ [⟨s.op.cb, s.op.ctx, if success then 0 else 1, u.op.done⟩] := by
    intro success u hround hfree hcard hmem ⟨hlg, hsh⟩ ⟨hcb, hctx, hcallbacks⟩
    obtain ⟨t, hexec, hsd, hvalid, htmem, htlg, htsh, htcallbacks⟩ := readEnds hround hfree hcard
    obtain ⟨hstored, hother⟩ := peek_stored (htmem.trans hmem) hwf (by omega)
    refine ⟨t, hexec, ?_, ?_, ?_, hvalid, hstored, hother, htlg.trans hlg, htsh.trans hsh, ?_, ?_⟩
    · rw [hsd]; rfl
    · rw [hsd]; rfl
    · rw [hsd]; exact hfree
    · rw [hsd]; rfl
    · rw [htcallbacks, hcb, hctx, hcallbacks]
  by_cases hbad : s.cfg.useCrc = true ∧ crc16Bytes s.env.inBytes ≠ 0
  · have hround := (hwrong hbad.1 hbad.2).2.2 hcount hquiet
    obtain ⟨t, hexec, hstate, hsession, hfree, hvalid, hstored, hother, hlg, hsh, herror, hcallbacks⟩ :=
      hend false _ hround rfl hcard rfl ⟨rfl, rfl⟩ ⟨rfl, rfl, rfl⟩
    refine ⟨t, hexec, hstate, hsession, hfree, hvalid, hstored, hother, hlg, hsh, ?_⟩
    rw [if_pos hbad, herror, hcallbacks]
    exact ⟨if_pos herr, by rw [← hdonecount]; rfl⟩
  · have hgood : s.cfg.useCrc = false ∨ crc16Bytes s.env.inBytes = 0 := by
      rcases Bool.eq_false_or_eq_true s.cfg.useCrc with huse | huse
      · exact .inr (Classical.not_not.mp fun h => hbad ⟨huse, h⟩)
      · exact .inl huse
    have hround := (hright hgood).2.2 hlast hcount hquiet
    obtain ⟨t, hexec, hstate, hsession, hfree, hvalid, hstored, hother, hlg, hsh, herror, hcallbacks⟩ :=
      hend true _ hround rfl hcard rfl ⟨rfl, rfl⟩ ⟨rfl, rfl, rfl⟩
    refine ⟨t, hexec, hstate, hsession, hfree, hvalid, hstored, hother, hlg, hsh, ?_⟩
    rw [if_neg hbad, herror, hcallbacks]
    refine ⟨rfl, ?_⟩
    show _ ++ [CbRecord.mk _ _ _ (s.op.idx + 1)] = _
    rw [hidx]
    rfl

end Sys2Proof.Machine
end

section
/-! The log engine's poll and its callbacks (44_logging_fsm.md sections 1, 2, 4, 5). -/

namespace Sys2Proof.Machine

/-! ### Handler runs one after another -/

theorem logLoop_yield {pre : Hook} {s t : State} (h : logHandler pre s = .ok (.yield, t)) (n : Nat) : logLoop pre (n + 1) s = .ok t := by
  rw [logLoop, h]
  rfl

theorem logLoop_again {pre : Hook} {s t : State} (h : logHandler pre s = .ok (.again, t)) (n : Nat) :
    logLoop pre (n + 1) s = logLoop pre n t := by
  rw [logLoop, h]
  rfl

theorem exec_logService {s t : State} {now : U32} (h : logLoop preemptPoint 8 (ticked now s) = .ok t) :
    exec (.logService now) s = .next (putRet .none t) := by
  show toOutcome ((logLoop preemptPoint 8 (ticked now s)).map (putRet .none)) = _
  rw [h]
  rfl

/-- A poll with nothing to do (R382, R388, R389, R398, R399). -/
theorem logHandler_waits {s : State} (h : logWaits s = true) (pre : Hook) : logHandler pre s = .ok (.yield, s) := by
  simp only [logWaits, Bool.or_eq_true, Bool.and_eq_true, beq_iff_eq, bne_iff_ne, Bool.not_eq_true'] at h
  rcases h with ((((h | h) | h) | ⟨hstate, hwif⟩) | ⟨hstate, hpaused⟩) | ⟨⟨hstate, hready⟩, hterminal⟩
  · exact logHandler_terminal h
  · rw [logHandler, h]
  · rw [logHandler, h]
  · rw [logHandler, hstate]
    exact if_pos hwif
  · rw [logHandler, hstate]
    dsimp only
    rw [pausedHandler, if_neg]
    rintro ⟨hnone, hterminal⟩
    rcases hpaused with h | h
    · exact h hnone
    · rw [h] at hterminal
      cases hterminal
  · have hwaits : ∀ block pending, acquire block pending s = (.yield, s) := fun block pending => by
      rw [acquire, if_neg (by rw [hterminal]; decide), if_pos hready]
    rcases hstate with hstate | hstate <;> rw [logHandler, hstate] <;> exact congrArg Except.ok (hwaits _ _)

/-- A run that ends the log engine ends the poll (R506). -/
theorem logLoop_ended {pre : Hook} {s t : State} {st : LogState} {e : Err} (hst : st.terminal = true)
    (h : logHandler pre s = .ok (.again, logFail st e t)) (n : Nat) : logLoop pre (n + 2) s = .ok (logEnded st e t) :=
  (logLoop_again h (n + 1)).trans (logLoop_yield (logHandler_terminal (s := logFail st e t) hst) n)

/-! ### Acquiring -/

/-- A terminal device ends acquisition (R381). -/
theorem acquire_terminal {s : State} (h : s.sd.state.terminal = true) (block : U32) (pending : LogState) :
    acquire block pending s = (.again, logFail .failed .deviceFailed s) := if_pos h

theorem SdState.terminal_ready {st : SdState} (h : st = .ready) : ¬(st.terminal = true) := by
  rw [h]
  decide

/-- A ready device reads the block into `SB_IMG` (R381). -/
theorem acquire_reads {s : State} {block : U32} (hready : s.sd.state = .ready) (hroom : block.toNat + 1 ≤ s.sd.capacity.toNat)
    (pending : LogState) : acquire block pending s =
      (.yield, { opAccepted .read block 1 ⟨.sbimg, 0⟩ .logRead 0 s with lg := { s.lg with state := pending } }) := by
  have hadmits : admits s block 1 = true := (admits_iff s block 1).mpr ⟨hready, by decide, hroom⟩
  rw [acquire, if_neg (SdState.terminal_ready hready), if_neg (not_not_intro hready), startOp_of_admits hadmits]
  rfl

/-- A block beyond the card ends the acquisition. -/
theorem acquire_beyond {s : State} {block : U32} (hready : s.sd.state = .ready) (hbeyond : s.sd.capacity.toNat ≤ block.toNat)
    (pending : LogState) : acquire block pending s = (.again, logFail .noValidPartition .noPartition s) := by
  have hadmits : admits s block 1 = false :=
    (admits_eq_false_iff s block 1).mpr (.inr (.inr (show s.sd.capacity.toNat < block.toNat + 1 by omega)))
  rw [acquire, if_neg (SdState.terminal_ready hready), if_neg (not_not_intro hready), startOp_of_not_admits hadmits]

/-- Settles O45: the wait, the device's failure, and the acquire read. -/
theorem logServiceAcquires : Obligations.LogServiceAcquires := by
  intro s now
  refine ⟨fun h => ?_, fun hterminal hstate => ?_, fun block pending hready hstate => ?_⟩
  · exact exec_logService (logLoop_yield (logHandler_waits (s := ticked now s) h preemptPoint) 7)
  · have hrun : logHandler preemptPoint (ticked now s) = .ok (.again, logFail .failed .deviceFailed (ticked now s)) := by
      simp only [List.mem_cons, List.not_mem_nil, or_false] at hstate
      rcases hstate with (h | h) | ⟨h | h, hwif⟩
      · rw [logHandler, show (ticked now s).lg.state = _ from h]
        exact congrArg Except.ok (acquire_terminal (s := ticked now s) hterminal _ _)
      · rw [logHandler, show (ticked now s).lg.state = _ from h]
        exact congrArg Except.ok (acquire_terminal (s := ticked now s) hterminal _ _)
      · rw [logHandler, show (ticked now s).lg.state = _ from h]
        exact (if_neg (not_not_intro hwif)).trans (if_pos hterminal)
      · rw [logHandler, show (ticked now s).lg.state = _ from h]
        exact congrArg Except.ok (if_pos ⟨hwif, hterminal⟩)
    exact exec_logService (logLoop_ended rfl hrun 6)
  · have hrun : logHandler preemptPoint (ticked now s) = .ok (acquire block pending (ticked now s)) := by
      rcases hstate with ⟨h, rfl, rfl⟩ | ⟨h, rfl, rfl⟩
      · rw [logHandler, show (ticked now s).lg.state = _ from h]
      · rw [logHandler, show (ticked now s).lg.state = _ from h]
        rfl
    refine ⟨fun hroom => ?_, fun hbeyond => ?_⟩
    · rw [acquire_reads (s := ticked now s) hready hroom] at hrun
      exact exec_logService (logLoop_yield hrun 7)
    · rw [acquire_beyond (s := ticked now s) hready hbeyond] at hrun
      exact exec_logService (logLoop_ended rfl hrun 6)

/-! ### Parsing -/

/-- `SB_IMG` holds a partition table's signature (R340). -/
theorem mbrValid_sbImage (s : State) : mbrValid (sbImage s) = true ↔ s.peek .sbimg 510 = 0x55 ∧ s.peek .sbimg 511 = 0xAA := by
  rw [mbrValid, sbImage, byteAt_peekList _ _ _ _ _ (by decide), byteAt_peekList _ _ _ _ _ (by decide), Bool.and_eq_true, beq_iff_eq, beq_iff_eq]

/-- Entry `n` of the table in `SB_IMG` (R341). -/
theorem mbrEntry_sbImage (s : State) {n : Nat} (hn : n < 4) : mbrEntry (sbImage s) n = s.peekList .sbimg (446 + 16 * n) 16 := by
  rw [mbrEntry, sbImage, take_drop_peekList _ _ _ (by unfold mbrEntryOffset; omega), mbrEntryOffset, Nat.zero_add]

/-- An entry the log engine uses (R383). -/
def usableEntry (table : List Byte) (n : Nat) : Bool :=
  entryValid (mbrEntry table n) && entryType (mbrEntry table n) == Config.partType

theorem usableEntry_iff (s : State) {n : Nat} (hn : n < 4) : usableEntry (sbImage s) n = true ↔ logEntry s n := by
  rw [usableEntry, mbrEntry_sbImage s hn, entryValid, entryType, byteAt_peekList _ _ _ _ _ (by decide), Bool.and_eq_true, bne_iff_ne,
    beq_iff_eq]
  exact ⟨fun h => h.2, fun h => ⟨by rw [show s.peek .sbimg (446 + 16 * n + 4) = Config.partType from h]; decide, h⟩⟩

theorem findPartition_succ (table : List Byte) (i k : Nat) : findPartition table i (k + 1) =
    if usableEntry table i = true then some (mbrEntry table i) else findPartition table (i + 1) k := rfl

theorem findPartition_none {table : List Byte} {i k : Nat} (h : ∀ n, i ≤ n → n < i + k → usableEntry table n ≠ true) :
    findPartition table i k = none := by
  induction k generalizing i with
  | zero => rfl
  | succ k ih =>
    rw [findPartition_succ, if_neg (h i (Nat.le_refl _) (by omega))]
    exact ih fun n hn hn' => h n (by omega) (by omega)

theorem findPartition_lowest {table : List Byte} {i k n : Nat} (hi : i ≤ n) (hn : n < i + k) (husable : usableEntry table n = true)
    (hbefore : ∀ m, i ≤ m → m < n → usableEntry table m ≠ true) : findPartition table i k = some (mbrEntry table n) := by
  induction k generalizing i with
  | zero => omega
  | succ k ih =>
    rcases Nat.eq_or_lt_of_le hi with rfl | hlt
    · exact if_pos husable
    · rw [findPartition_succ, if_neg (hbefore i (Nat.le_refl _) hlt)]
      exact ih hlt (by omega) fun m hm hm' => hbefore m (by omega) hm'

/-- The table's outcomes (R383). -/
theorem parseTable_invalid {s : State} (h : ¬(mbrValid (sbImage s) = true)) : parseTable s = logFail .noValidTable .invalidTable s := by
  rw [parseTable, if_pos (by simpa using h)]

theorem parseTable_empty {s : State} (h : mbrValid (sbImage s) = true) (hfind : findPartition (sbImage s) 0 4 = none) :
    parseTable s = logFail .noValidPartition .noPartition s := by
  rw [parseTable, h, if_neg (by decide), show Config.nPartEntries = 4 from rfl, hfind]

theorem parseTable_found {s : State} {e : List Byte} (h : mbrValid (sbImage s) = true) (hfind : findPartition (sbImage s) 0 4 = some e) :
    parseTable s =
      { s with lg := { s.lg with partStart := entryStartLba e, partLen := entryLength e, retry := 0, state := .acqSb } } := by
  rw [parseTable, h, if_neg (by decide), show Config.nPartEntries = 4 from rfl, hfind]
  rfl

/-- The superblock's magics stand in `SB_IMG` (R350). -/
theorem sbValid_sbImage (s : State) : sbValid (sbImage s) = true ↔
    ∀ k, k < 8 → s.peek .sbimg k = byteAt Config.sbMagic k ∧ s.peek .sbimg (504 + k) = byteAt Config.sbMagic k := by
  rw [sbImage, sbValid_peekList]
  simp only [List.all_eq_true, List.mem_range, Bool.and_eq_true, beq_iff_eq, Nat.zero_add]

theorem sbVersionOf_sbImage (s : State) : sbVersionOf (sbImage s) = s.peek .sbimg 8 := by
  rw [sbVersionOf, sbImage, byteAt_peekList _ _ _ _ _ (by decide)]

/-- A full directory has no slot for a fresh flight (R356). -/
theorem flightSlotFor_sbImage_full {s : State} (hfull : ∀ j, j < 32 → field32 s .sbimg (96 + 12 * j) ≠ 0) (cont : Bool) :
    flightSlotFor (sbImage s) cont = if cont then some (31, .continued) else none :=
  flightSlotFor_full cont fun j hj => by rw [Nat.zero_add]; exact hfull j hj

theorem logHandler_ptParsed {s : State} (h : s.lg.state = .ptParsed) (pre : Hook) : logHandler pre s = .ok (.again, parseTable s) := by
  rw [logHandler, h]

theorem logHandler_sbParsed {s : State} (h : s.lg.state = .sbParsed) (pre : Hook) : logHandler pre s = .ok (.again, parseSuperblock s) := by
  rw [logHandler, h]

theorem logHandler_acqSb {s : State} (h : s.lg.state = .acqSb) (pre : Hook) :
    logHandler pre s = .ok (acquire s.lg.partStart .sbPending s) := by
  rw [logHandler, h]

/-- Settles O46: the table, the poll going on to the superblock's read, and the superblock. -/
theorem logServiceParses : Obligations.LogServiceParses := by
  intro s now sig magic
  have himage : sbImage (ticked now s) = sbImage s := rfl
  refine ⟨fun hstate => ⟨fun hsig => ?_, fun hsig hnone => ?_, fun n hsig hn hentry hbefore => ?_⟩, fun hstate => ⟨fun hmagic => ?_,
    fun hmagic hversion => ?_, fun hmagic hversion hcont hfull => ?_⟩⟩
  · have hrun := logHandler_ptParsed (s := ticked now s) hstate preemptPoint
    rw [parseTable_invalid (s := ticked now s) (by rw [mbrValid_sbImage]; exact hsig)] at hrun
    exact exec_logService (logLoop_ended rfl hrun 6)
  · have hrun := logHandler_ptParsed (s := ticked now s) hstate preemptPoint
    have hfind : findPartition (sbImage s) 0 4 = none := findPartition_none fun n _ hn => by
      rw [Ne, usableEntry_iff s (by omega)]
      exact hnone n (by omega)
    rw [parseTable_empty (s := ticked now s) ((mbrValid_sbImage _).mpr hsig) hfind] at hrun
    exact exec_logService (logLoop_ended rfl hrun 6)
  · intro start t
    have hrun := logHandler_ptParsed (s := ticked now s) hstate preemptPoint
    have hfind : findPartition (sbImage s) 0 4 = some (s.peekList .sbimg (446 + 16 * n) 16) := by
      rw [← mbrEntry_sbImage s hn]
      refine findPartition_lowest (Nat.zero_le _) (by omega) ((usableEntry_iff s hn).mpr hentry) fun m _ hm => ?_
      rw [Ne, usableEntry_iff s (by omega)]
      exact hbefore m hm
    have hparsed : parseTable (ticked now s) = t := by
      rw [parseTable_found (s := ticked now s) ((mbrValid_sbImage _).mpr hsig) hfind]
      rw [entryStartLba, entryLength, le32_peekList _ _ _ _ _ (by decide), le32_peekList _ _ _ _ _ (by decide)]
      rfl
    rw [hparsed] at hrun
    have hnext := logHandler_acqSb (s := t) rfl preemptPoint
    refine ⟨fun hnot hterminal => ?_, fun hterminal => ?_, fun hready hroom => ?_, fun hready hbeyond => ?_⟩
    · have hwaits : logWaits t = true := by simp [logWaits, t, ticked, hnot, hterminal]
      exact exec_logService ((logLoop_again hrun 7).trans (logLoop_yield (logHandler_waits hwaits preemptPoint) 6))
    · rw [acquire_terminal (s := t) hterminal] at hnext
      exact exec_logService ((logLoop_again hrun 7).trans (logLoop_ended rfl hnext 5))
    · rw [acquire_reads (s := t) hready hroom] at hnext
      exact exec_logService ((logLoop_again hrun 7).trans (logLoop_yield hnext 6))
    · rw [acquire_beyond (s := t) hready hbeyond] at hnext
      exact exec_logService ((logLoop_again hrun 7).trans (logLoop_ended rfl hnext 5))
  all_goals have hrun := logHandler_sbParsed (s := ticked now s) hstate preemptPoint
  · have hparse : parseSuperblock (ticked now s) = logFail .noValidPartition .badSbMagic (ticked now s) := by
      refine if_pos ?_
      rw [Bool.not_eq_true', ← Bool.not_eq_true, himage, sbValid_sbImage]
      exact hmagic
    rw [hparse] at hrun
    exact exec_logService (logLoop_ended rfl hrun 6)
  all_goals
    have hvalid : ¬((!sbValid (sbImage (ticked now s))) = true) := by
      rw [Bool.not_eq_true', Bool.not_eq_false, himage, sbValid_sbImage]
      exact hmagic
  · have hparse : parseSuperblock (ticked now s) = logFail .noValidPartition .badSbVersion (ticked now s) := by
      refine (if_neg hvalid).trans (if_pos ?_)
      rw [himage, sbVersionOf_sbImage]
      exact hversion
    rw [hparse] at hrun
    exact exec_logService (logLoop_ended rfl hrun 6)
  · have hparse : parseSuperblock (ticked now s) = logFail .noValidPartition .noFreeSlot (ticked now s) := by
      refine (if_neg hvalid).trans ((if_neg ?_).trans ?_)
      · rw [himage, sbVersionOf_sbImage]
        exact not_not_intro hversion
      · have hslot : flightSlotFor (sbImage (ticked now s)) (ticked now s).env.continueFlight = none := by
          rw [show (ticked now s).env.continueFlight = false from hcont]
          exact flightSlotFor_sbImage_full (s := ticked now s) hfull false
        rw [selectFlight, hslot]
    rw [hparse] at hrun
    exact exec_logService (logLoop_ended rfl hrun 6)

/-! ### Flight selection -/

theorem flightGet_sbImage (s : State) {i : Nat} (hi : i ≤ 31) : flightGet (sbImage s) i =
    (field32 s .sbimg (96 + 12 * i), field32 s .sbimg (100 + 12 * i), field32 s .sbimg (104 + 12 * i)) := by
  rw [sbImage, flightGet_peekList _ _ _ hi, Nat.zero_add, Nat.zero_add, Nat.zero_add]

theorem flightSlotFor_sbImage_free {s : State} {f : Nat} (hf : f < 32) (hfree : field32 s .sbimg (96 + 12 * f) = 0)
    (hbefore : ∀ j, j < f → field32 s .sbimg (96 + 12 * j) ≠ 0) (cont : Bool) :
    flightSlotFor (sbImage s) cont = if cont = true ∧ f ≠ 0 then some (f - 1, .continued) else some (f, .fresh) :=
  flightSlotFor_free cont hf (by rw [Nat.zero_add]; exact hfree) fun j hj => by rw [Nat.zero_add]; exact hbefore j hj

theorem toNat_satAdd (a b : U32) : (satAdd a b).toNat = min (a.toNat + b.toNat) 0xFFFFFFFF := by
  rw [satAdd, BitVec.toNat_ofNat]
  exact Nat.mod_eq_of_lt (by omega)

/-- The log engine active with its anchors set, a flight of slot `i` selected (R386). -/
def flightSelected (i : Nat) (first num ts : U32) (s : State) : State := { s with lg := { s.lg with
  state := .active, flightIdx := BitVec.ofNat 5 i, flFirst := first, flNum := num, flTs := ts, flightValid := true
  tLastPersist := s.env.now, tLastData := s.env.now, wif := .none, pauseReq := false, oosPending := false } }

theorem selectFlight_continued {s : State} {i : Nat} (h : flightSlotFor (sbImage s) s.env.continueFlight = some (i, .continued)) (hi : i ≤ 31) :
    selectFlight s = flightSelected i (field32 s .sbimg (96 + 12 * i)) (field32 s .sbimg (100 + 12 * i)) (field32 s .sbimg (104 + 12 * i)) s := by
  rw [selectFlight, h]
  dsimp only
  rw [flightGet_sbImage s hi]
  rfl

theorem selectFlight_fresh {s : State} {i : Nat} (h : flightSlotFor (sbImage s) s.env.continueFlight = some (i, .fresh)) :
    selectFlight s =
      let first := if i = 0 then 1 else satAdd (flightGet (sbImage s) (i - 1)).1 (flightGet (sbImage s) (i - 1)).2.1
      (flightSelected i first 0 0 s).poke .sbimg (flightOffset i) (flightBytes first 0 0) := by
  rw [selectFlight, h]
  rfl

theorem setWidth_ofNat (i : Nat) : (BitVec.ofNat 32 i).setWidth 5 = BitVec.ofNat 5 i := by
  apply BitVec.eq_of_toNat_eq
  simp only [BitVec.toNat_setWidth, BitVec.toNat_ofNat]
  omega

/-- Settles O47: the first free slot, and the slot a continued flight takes. -/
theorem flightSelection : Obligations.FlightSelection := by
  intro s hwf hvalid hversion active first num ts
  have hselect : parseSuperblock s = selectFlight s := by
    rw [parseSuperblock, hvalid, if_neg (by decide), if_neg (not_not_intro hversion)]
  have hactive : ∀ i f n t, { s with lg := active (BitVec.ofNat 32 i) f n t } = flightSelected i f n t s := fun i f n t => by
    rw [flightSelected, ← setWidth_ofNat]
  refine ⟨fun f hf hfree hbefore hcont => ?_, fun i hi hcont hused hlast => ?_⟩
  · have hslot : flightSlotFor (sbImage s) s.env.continueFlight = some (f, .fresh) := by
      rw [flightSlotFor_sbImage_free hf hfree hbefore, if_neg fun h => h.2 (hcont h.1)]
    refine ⟨if f = 0 then 1 else satAdd (flightGet (sbImage s) (f - 1)).1 (flightGet (sbImage s) (f - 1)).2.1, ?_, ?_⟩
    · rw [hselect, selectFlight_fresh hslot, hactive]
      rfl
    · split
      · rfl
      · rw [toNat_satAdd, flightGet_sbImage s (by omega)]
  · have hslot : flightSlotFor (sbImage s) s.env.continueFlight = some (i, .continued) := by
      rw [hcont]
      by_cases hfull : i = 31
      · subst hfull
        exact flightSlotFor_sbImage_full (fun j hj => hused j (by omega)) true
      · have hfree := hlast.resolve_left hfull
        rw [flightSlotFor_sbImage_free (f := i + 1) (by omega) hfree (fun j hj => hused j (by omega)), if_pos ⟨rfl, Nat.succ_ne_zero i⟩]
        rfl
    rw [hselect, selectFlight_continued hslot (by omega), hactive]

/-! ### Persists -/

theorem persist_started {kind : SbKind} {s : State} (hvalid : s.lg.flightValid = true) (hready : s.sd.state = .ready)
    (hroom : s.lg.partStart.toNat + 1 ≤ s.sd.capacity.toNat) : persist kind s = .ok (State.poke
      { opAccepted .write s.lg.partStart 1 ⟨.sbimg, 0⟩ .logSb (kind.code.setWidth 32) s with
        lg := { s.lg with
          wif := .sb, sbKind := kind
          pauseReq := s.lg.pauseReq && kind != .pause
          oosPending := s.lg.oosPending && kind != .oos } }
      .sbimg (flightOffset s.lg.flightIdx.toNat) (flightBytes s.lg.flFirst s.lg.flNum s.lg.flTs)) := by
  generalize hu : storeFlight s.lg.flightIdx.toNat s.lg.flFirst s.lg.flNum s.lg.flTs s = u
  have hsd : u.sd = s.sd ∧ u.lg = s.lg := by rw [← hu]; exact ⟨rfl, rfl⟩
  have hadmits : admits u s.lg.partStart 1 = true := (admits_iff u _ 1).mpr (by rw [hsd.1]; exact ⟨hready, by decide, hroom⟩)
  unfold persist
  rw [hvalid, if_neg (by decide)]
  dsimp only
  rw [hu, hsd.2, startOp_of_admits hadmits, ← hu]
  cases kind <;> simp [State.onLg, State.poke, storeFlight, opAccepted, State.onMem]

/-- The order of the persists in `L_ACTIVE` (R389). -/
theorem activeHandler_persists {s : State} {kind : SbKind} (hfree : logFree s = true)
    (hkind : kind = .oos ∧ s.lg.oosPending = true ∨
      kind = .pause ∧ s.lg.oosPending = false ∧ s.lg.pauseReq = true ∨
      kind = .periodic ∧ s.lg.oosPending = false ∧ s.lg.pauseReq = false ∧ s.cfg.sbPersistIntervalMs < s.env.now - s.lg.tLastPersist)
    (pre : Hook) : logHandler pre s = (persist kind s).map fun s => (.yield, s) := by
  simp only [logFree, Bool.and_eq_true, beq_iff_eq] at hfree
  obtain ⟨⟨hstate, hwif⟩, hready⟩ := hfree
  rw [logHandler, hstate]
  dsimp only
  rw [activeHandler, if_neg (not_not_intro hwif), if_neg (SdState.terminal_ready hready)]
  rcases hkind with ⟨rfl, hoos⟩ | ⟨rfl, hoos, hpause⟩ | ⟨rfl, hoos, hpause, hdue⟩
  · exact if_pos hoos
  · rw [hoos, if_neg (by decide)]
    exact if_pos hpause
  · rw [hoos, hpause, if_neg (by decide), if_neg (by decide)]
    exact if_pos (expired_iff.mpr hdue)

/-- Settles O50: the persist due is started, and the poll is over. -/
theorem persistWritesSuperblock : Obligations.PersistWritesSuperblock := by
  intro s now kind code hfree hvalid hroom hkind
  have hready : s.sd.state = .ready := by
    simp only [logFree, Bool.and_eq_true, beq_iff_eq] at hfree
    exact hfree.2
  have hcode : kind.code.setWidth 32 = code := by
    rcases hkind with ⟨rfl, rfl, _⟩ | ⟨rfl, rfl, _⟩ | ⟨rfl, rfl, _⟩ <;> rfl
  have hrun := activeHandler_persists (s := ticked now s) (kind := kind) hfree (by
    rcases hkind with ⟨rfl, _, hoos⟩ | ⟨rfl, _, hoos, hpause⟩ | ⟨rfl, _, hoos, hpause, hdue⟩
    · exact .inl ⟨rfl, hoos⟩
    · exact .inr (.inl ⟨rfl, hoos, hpause⟩)
    · exact .inr (.inr ⟨rfl, hoos, hpause, hdue⟩)) preemptPoint
  rw [persist_started (s := ticked now s) hvalid hready hroom, hcode] at hrun
  exact exec_logService (logLoop_yield hrun 7)

/-! ### Callbacks -/

/-- Settles O51: each callback of the log engine runs on the state with the request taken. -/
theorem logCallbacks : Obligations.LogCallbacks := by
  intro s ctx blocks success t
  refine ⟨fun now next back hnow hstate hqueue => ?_, fun hqueue hwif hquiet => ?_, fun kind hkind hqueue => ?_⟩
  · have hrun : runCallback s = .ok (logReadCb ⟨.logRead, ctx, success, blocks⟩ t) := by
      rw [runCallback, hqueue]
      rfl
    rw [hrun, logReadCb]
    cases success with
    | true =>
      rcases hnow with ⟨rfl, rfl, rfl⟩ | ⟨rfl, rfl, rfl⟩ <;> simp [State.onLg, t, hstate]
    | false =>
      by_cases hceiling : s.cfg.retryCeiling < s.lg.retry + 1
      · simp only [State.onLg, logFail, t, hceiling, Bool.false_eq_true, if_false, if_true]
      · rcases hnow with ⟨rfl, rfl, rfl⟩ | ⟨rfl, rfl, rfl⟩ <;>
          simp only [State.onLg, t, hceiling, Bool.false_eq_true, if_false, hstate] <;> rfl
  · have hrun : runCallback s = logDataCb preemptPoint ⟨.logData, ctx, success, blocks⟩ t := by
      rw [runCallback, hqueue]
      rfl
    have hstep : ∀ (u : State) (f : State → Except Stop State), u.env = t.env → (preemptPoint u >>= f) = f u := fun u f hu => by
      rw [preemptPoint_quiet ((quiet_congr hu).trans hquiet)]
      rfl
    rw [hrun, logDataCb, if_neg (not_not_intro hwif)]
    by_cases hfull : success = true ∧ blocks = s.lg.wifNblk
    · rw [if_pos hfull]
      refine (if_pos hfull).trans ?_
      refine Eq.trans (hstep _ _ (by rfl)) ?_
      refine Eq.trans (hstep _ _ (by rfl)) ?_
      rw [hfull.2]
      simp only [storeCount, storePending, State.onSh, State.onLg, t, Shared.setBuf]
      split <;> rfl
    · rw [if_neg hfull]
      exact if_neg hfull
  · have hrun : runCallback s = .ok (logSbCb ⟨.logSb, ctx, success, blocks⟩ t) := by
      rw [runCallback, hqueue]
      rfl
    rw [hrun, logSbCb]
    rcases hkind with ⟨rfl, rfl⟩ | ⟨rfl, rfl⟩ | ⟨rfl, rfl⟩ <;> rfl

end Sys2Proof.Machine
end

section
/-! The drain at a quiet poll (44_logging_fsm.md section 3): its marks, its selection, the padding and the issue. -/

namespace Sys2Proof.Machine

/-! ### Marks -/

/-- A buffer marked pending where a test says so. -/
def withPending (i : Nat) (p : Bool) (s : State) : State := s.onSh fun x => x.setBuf i fun b => { b with pending := b.pending || p }

theorem Shared.setBuf_id (x : Shared) (i : Nat) : (x.setBuf i fun b => b) = x := by
  unfold Shared.setBuf
  split <;> rfl

theorem withPending_false (i : Nat) (s : State) : withPending i false s = s := by
  have hsame : (s.sh.setBuf i fun b => { b with pending := b.pending || false }) = s.sh := by
    simp only [Bool.or_false]
    exact Shared.setBuf_id s.sh i
  exact congrArg (fun x => { s with sh := x }) hsame

theorem withPending_true (i : Nat) (s : State) : withPending i true s = storePending i true s := by
  unfold withPending storePending
  simp only [Bool.or_true]

theorem markFull_eq (i : Nat) (s : State) :
    markFull i s = withPending i (nearFull s.cfg.logBufCap s.cfg.watermark (s.sh.buf i).count) s := by
  unfold markFull
  cases nearFull s.cfg.logBufCap s.cfg.watermark (s.sh.buf i).count
  · exact (withPending_false i s).symm
  · exact (withPending_true i s).symm

theorem expired_eq_decide (now anchor window : U32) : expired now anchor window = decide (window < now - anchor) := rfl

/-- The age test of R390. -/
def aged (ip : U32) (s : State) : Bool :=
  ipValid ip && expired s.env.now s.lg.tLastData s.cfg.dataAgeIntervalMs && (s.sh.buf (ipIdx ip)).count != 0

theorem markAged_eq (ip : U32) (s : State) : markAged ip s = withPending (ipIdx ip) (aged ip s) s := by
  unfold markAged
  rw [← aged]
  cases aged ip s
  · exact (withPending_false _ s).symm
  · exact (withPending_true _ s).symm

/-- The nulling, from the mark of the insertion point's buffer. -/
theorem nullIp_eq (ip : U32) (s : State) (h : s.sh.ip = ip) :
    nullIp ip s = s.onSh fun x => { x with ip := if ipValid ip && (s.sh.buf (ipIdx ip)).pending then ipNull ip else ip } := by
  unfold nullIp
  cases ipValid ip && (s.sh.buf (ipIdx ip)).pending
  · simp only [Bool.false_eq_true, if_false, State.onSh, ← h]
  · rfl

/-- A mark keeps the counts, and with them the other tests. -/
theorem count_withPending (i j : Nat) (p : Bool) (s : State) : ((withPending i p s).sh.buf j).count = (s.sh.buf j).count := by
  cases p
  · rw [withPending_false]
  · rw [withPending_true, (Marks.storePending i true s).count]

theorem aged_withPending (i : Nat) (p : Bool) (ip : U32) (s : State) : aged ip (withPending i p s) = aged ip s := by
  unfold aged
  rw [count_withPending]
  rfl

/-- The mark of a poll is the old one, the watermark's or the age's (R390). -/
theorem pendingAt_eq (i : Nat) (s : State) : pendingAt s.env.now i s =
    ((s.sh.buf i).pending || nearFull s.cfg.logBufCap s.cfg.watermark (s.sh.buf i).count || (ipIdx s.sh.ip == i && aged s.sh.ip s)) := by
  unfold pendingAt aged
  rw [expired_eq_decide, nearFull]
  by_cases h : ipIdx s.sh.ip = i
  · rw [h, beq_self_eq_true, Bool.and_true, Bool.true_and]
  · rw [beq_eq_false_iff_ne.mpr h, Bool.and_false, Bool.false_and, Bool.false_and, Bool.false_and]

/-- The marks of a poll (R390), in one piece. -/
theorem drainMark_eq {s : State} (hwf : ipWellFormed s.sh.ip = true) : drainMark s = { s with sh := markedAt s.env.now s } := by
  have hidx := ipIdx_lt hwf
  have hip : ∀ (i : Nat) (p : Bool) (u : State), (withPending i p u).sh.ip = u.sh.ip := fun i p u => Shared.setBuf_ip _ _ _
  unfold drainMark
  dsimp only
  rw [markFull_eq, markFull_eq, markAged_eq, nullIp_eq _ _ (hip _ _ _), hip, hip, aged_withPending, aged_withPending, count_withPending]
  unfold markedAt
  rw [pendingAt_eq, pendingAt_eq, pendingAt_eq]
  generalize aged s.sh.ip s = a
  rcases (show ipIdx s.sh.ip = 0 ∨ ipIdx s.sh.ip = 1 by omega) with h | h <;>
    simp [h, withPending, State.onSh, Shared.setBuf, Shared.buf]

/-! ### Selection -/

/-- The state after a poll's marks. -/
def markedState (now : U32) (s : State) : State := { ticked now s with sh := markedAt now s }

theorem drainSection_eq {now : U32} {s : State} (hwf : ipWellFormed s.sh.ip = true) (hcritical : s.env.critical = false) :
    drainSection (ticked now s) = .ok (drainSelect (markedState now s)) := by
  have hsame : ∀ u : State, u.env.critical = false →
      ((drainSelect (u.onEnv fun e => { e with critical := true })).1,
        (drainSelect (u.onEnv fun e => { e with critical := true })).2.onEnv fun e => { e with critical := false }) = drainSelect u := by
    intro u hu
    have henv : ({ u.env with critical := false } : Env) = u.env := by rw [← hu]
    have hbuf : (u.onEnv fun e => { e with critical := true }).sh = u.sh := rfl
    unfold drainSelect
    rw [hbuf]
    dsimp only
    split
    · simp only [State.onEnv, henv]
    · split
      · simp only [storePending, State.onSh, State.onEnv, henv]
      · simp only [State.onEnv, henv]
  unfold drainSection
  rw [if_neg (by rw [show ipWellFormed (ticked now s).sh.ip = true from hwf]; decide)]
  dsimp only
  rw [drainMark_eq (s := (ticked now s).onEnv fun e => { e with critical := true }) hwf]
  exact congrArg Except.ok (hsame (markedState now s) hcritical)

theorem count_markedAt (now : U32) (s : State) (i : Nat) : ((markedAt now s).buf i).count = (s.sh.buf i).count := by
  unfold markedAt Shared.buf
  split <;> rfl

theorem drainable_markedAt (now : U32) (s : State) : drainable (markedAt now s).buf0 = selectableAt now 0 s ∧
    drainable (markedAt now s).buf1 = selectableAt now 1 s := ⟨rfl, rfl⟩

theorem drainSelect_none {now : U32} {s : State} (h0 : selectableAt now 0 s = false) (h1 : selectableAt now 1 s = false) :
    drainSelect (markedState now s) = (none, markedState now s) := by
  obtain ⟨hb0, hb1⟩ := drainable_markedAt now s
  unfold drainSelect
  rw [show (markedState now s).sh = markedAt now s from rfl, hb0, hb1, h0, h1]
  rfl

theorem drainSelect_selected {now : U32} {s : State} {b : Nat} (h : selectedAt now b s) : drainSelect (markedState now s) =
    if (s.sh.buf b).count = 0 then (none, storePending b false (markedState now s)) else (some b, markedState now s) := by
  obtain ⟨hb0, hb1⟩ := drainable_markedAt now s
  unfold drainSelect
  rw [show (markedState now s).sh = markedAt now s from rfl, hb0, hb1]
  rcases h with ⟨rfl, h0⟩ | ⟨rfl, h0, h1⟩
  · rw [h0, if_pos rfl]
    dsimp only
    rw [count_markedAt]
  · rw [h0, h1, if_neg (by decide), if_pos rfl]
    dsimp only
    rw [count_markedAt]

/-! ### Padding -/

/-- The blocks that hold `c` bytes, in bytes: what is missing to the end of the last one (R392). -/
theorem ceilBlocks (c : Nat) : 512 * ((c + 511) / 512) = if c % 512 = 0 then c else c + (512 - c % 512) := by
  split <;> omega

/-- The bytes of a spacer header, and of zeros (R391, R392). -/
theorem padBytes_eq_tailPad (p : Params) {c : Nat} (h : c % 512 ≠ 0) : padBytes p (512 - c % 512) = tailPad p c := by
  have hpad : 512 * ((c + 511) / 512) - c = 512 - c % 512 := by rw [ceilBlocks, if_neg h]; omega
  have htype : (p.spacerType.setWidth 16).extractLsb' 0 2 = p.spacerType.extractLsb' 0 2 ∧
      (p.spacerType.setWidth 16).extractLsb' 2 8 = p.spacerType.extractLsb' 2 8 ∧
      (p.spacerClass.setWidth 16).extractLsb' 0 6 = p.spacerClass := by
    refine ⟨?_, ?_, ?_⟩ <;> apply BitVec.eq_of_toNat_eq <;>
      simp only [BitVec.extractLsb'_toNat, BitVec.toNat_setWidth, Nat.shiftRight_eq_div_pow] <;> omega
  have hlow : ∀ n, byteOf (BitVec.ofNat 16 n) 0 = BitVec.ofNat 8 n := fun n => by
    apply BitVec.eq_of_toNat_eq
    simp only [byteOf, BitVec.extractLsb'_toNat, BitVec.toNat_ofNat, Nat.mul_zero, Nat.shiftRight_zero]
    omega
  have hhigh : ∀ n, byteOf (BitVec.ofNat 16 n) 1 = BitVec.ofNat 8 (n / 256) := fun n => by
    apply BitVec.eq_of_toNat_eq
    simp only [byteOf, BitVec.extractLsb'_toNat, BitVec.toNat_ofNat, Nat.mul_one, Nat.shiftRight_eq_div_pow]
    omega
  unfold padBytes tailPad
  rw [hpad, hdrBytes, htype.1, htype.2.1, htype.2.2, hlow, hhigh]

theorem length_tailPad (p : Params) (c : Nat) : (tailPad p c).length = 512 * ((c + 511) / 512) - c := by
  unfold tailPad
  dsimp only
  split
  · rw [List.length_append, List.length_replicate]
    simp only [List.length_cons, List.length_nil]
    omega
  · exact List.length_replicate

theorem quiet_of_drainsAt {now : U32} {s u : State} (h : drainsAt now s = true) (henv : u.env.irqs = s.env.irqs) : quiet u = true := by
  simp only [drainsAt, Bool.and_eq_true] at h
  obtain ⟨⟨⟨_, hirqs⟩, _⟩, _⟩ := h
  rw [quiet, henv, hirqs]
  rfl

theorem preempt_bind {α : Type} {u : State} {f : State → Except Stop α} (h : quiet u = true) : (preemptPoint u >>= f) = f u := by
  rw [preemptPoint_quiet h]
  rfl

theorem Shared.setBuf_congr {x : Shared} {i : Nat} {f g : Buf → Buf} (h : f (x.buf i) = g (x.buf i)) : x.setBuf i f = x.setBuf i g := by
  unfold Shared.setBuf Shared.buf at *
  split
  next hi => rw [if_pos hi] at h; rw [h]
  next hi => rw [if_neg hi] at h; rw [h]

theorem Shared.setBuf_self {x : Shared} {i : Nat} {f : Buf → Buf} (h : f (x.buf i) = x.buf i) : x.setBuf i f = x :=
  (Shared.setBuf_congr (g := fun b => b) h).trans (Shared.setBuf_id x i)

/-- The padding of a selected buffer at a quiet poll (R392). -/
theorem drainPad_marked {now : U32} {s : State} {b : Nat} (hwf : s.cfg.wf = true) (hdrains : drainsAt now s = true) (hb : b < 2)
    (hcount : (s.sh.buf b).count.toNat ≤ s.cfg.logBufCap) :
    drainPad preemptPoint b (markedState now s) = .ok (paddedAt now b s) := by
  obtain ⟨hlow, hcap⟩ := logBufCap_of_wf hwf
  have hmod : s.cfg.logBufCap % 512 = 0 := by
    simp only [Params.wf, Bool.and_eq_true, beq_iff_eq] at hwf
    omega
  have hc : ((markedState now s).sh.buf b).count = (s.sh.buf b).count := count_markedAt now s b
  have hmul : b * s.cfg.logBufCap ≤ 1 * s.cfg.logBufCap := Nat.mul_le_mul_right _ (by omega)
  unfold drainPad
  refine Eq.trans (preempt_bind (quiet_of_drainsAt hdrains rfl)) ?_
  dsimp only
  rw [hc]
  by_cases hblock : (s.sh.buf b).count.toNat % 512 = 0
  · have hnil : tailPad s.cfg (s.sh.buf b).count.toNat = [] := by
      refine List.eq_nil_of_length_eq_zero ?_
      rw [length_tailPad, ceilBlocks, if_pos hblock, Nat.sub_self]
    have hsame : ((markedAt now s).setBuf b fun x => { x with count := BitVec.ofNat 32 (512 * ((x.count.toNat + 511) / 512)) }) = markedAt now s := by
      refine Shared.setBuf_self ?_
      have hcount : BitVec.ofNat 32 (512 * ((((markedAt now s).buf b).count.toNat + 511) / 512)) = ((markedAt now s).buf b).count := by
        rw [count_markedAt, ceilBlocks, if_pos hblock, BitVec.ofNat_toNat, BitVec.setWidth_eq]
      rw [hcount]
    rw [if_pos hblock, paddedAt, hnil, State.poke_nil, hsame]
    rfl
  · have haddr : (handleOf s.cfg.logBufCap b (s.sh.buf b).count.toNat).toNat = b * s.cfg.logBufCap + (s.sh.buf b).count.toNat :=
      handleOf_toNat (by omega) hb hcount
    have hspace : inSpace (markedState now s).cfg .logbuf (b * s.cfg.logBufCap + (s.sh.buf b).count.toNat) (tailPad s.cfg (s.sh.buf b).count.toNat).length = true := by
      rw [length_tailPad, ceilBlocks, if_neg hblock, inSpace, Bool.or_eq_true, decide_eq_true_eq]
      refine .inr ?_
      show _ ≤ 2 * s.cfg.logBufCap
      omega
    rw [if_neg hblock, show (markedState now s).cfg = s.cfg from rfl, haddr, padBytes_eq_tailPad _ hblock, writeBytes, if_pos hspace]
    show (preemptPoint ((markedState now s).poke .logbuf _ _) >>= _) = _
    refine Eq.trans (preempt_bind (quiet_of_drainsAt hdrains rfl)) ?_
    have hset : ((markedAt now s).setBuf b fun x => { x with count := BitVec.ofNat 32 ((s.sh.buf b).count.toNat + (512 - (s.sh.buf b).count.toNat % 512)) }) =
        (markedAt now s).setBuf b fun x => { x with count := BitVec.ofNat 32 (512 * ((x.count.toNat + 511) / 512)) } := by
      refine Shared.setBuf_congr ?_
      rw [count_markedAt, ceilBlocks, if_neg hblock]
    unfold paddedAt
    rw [← hset]
    rfl

/-! ### Issue -/

/-- The padded buffer's count is its blocks'. -/
theorem count_paddedAt {now : U32} {s : State} {b : Nat} (hwf : s.cfg.wf = true) (hcount : (s.sh.buf b).count.toNat ≤ s.cfg.logBufCap) :
    ((paddedAt now b s).sh.buf b).count.toNat = 512 * (((s.sh.buf b).count.toNat + 511) / 512) := by
  obtain ⟨hlow, hcap⟩ := logBufCap_of_wf hwf
  have hbuf : ((paddedAt now b s).sh.buf b).count = BitVec.ofNat 32 (512 * (((s.sh.buf b).count.toNat + 511) / 512)) := by
    show (((markedAt now s).setBuf b _).buf b).count = _
    rw [Shared.buf_setBuf, count_markedAt]
  rw [hbuf, BitVec.toNat_ofNat]
  exact Nat.mod_eq_of_lt (by omega)

/-- The blocks a poll would write: those of the buffer, capped at what the flight has left (R393). -/
def blocksToWrite (b : Nat) (s : State) : Nat :=
  min (((s.sh.buf b).count.toNat + 511) / 512) (s.lg.partLen.toNat - (s.lg.flFirst.toNat + s.lg.flNum.toNat))

section
variable {now : U32} {s : State} {b : Nat} (hwf : s.cfg.wf = true) (hdrains : drainsAt now s = true)
  (hcount : (s.sh.buf b).count.toNat ≤ s.cfg.logBufCap)
include hwf hdrains hcount

/-- With no space left the out-of-space persist is requested (R393). -/
theorem drainIssue_full (h : blocksToWrite b s = 0) : drainIssue preemptPoint b (paddedAt now b s) =
    .ok (.again, { paddedAt now b s with lg := { s.lg with oosPending := true } }) := by
  unfold drainIssue
  refine Eq.trans (preempt_bind (quiet_of_drainsAt hdrains rfl)) ?_
  dsimp only
  rw [count_paddedAt hwf hcount, Nat.mul_div_cancel_left _ (by decide)]
  exact if_pos h

omit hdrains in
theorem toNat_blocksToWrite : (BitVec.ofNat 32 (blocksToWrite b s)).toNat = blocksToWrite b s := by
  obtain ⟨hlow, hcap⟩ := logBufCap_of_wf hwf
  rw [BitVec.toNat_ofNat]
  refine Nat.mod_eq_of_lt ?_
  unfold blocksToWrite
  omega

/-- A write beyond the card is refused, the padding done. -/
theorem drainIssue_refused (h : blocksToWrite b s ≠ 0)
    (hbeyond : s.sd.capacity.toNat < (s.lg.partStart + s.lg.flFirst + s.lg.flNum).toNat + blocksToWrite b s) :
    drainIssue preemptPoint b (paddedAt now b s) = .ok (.yield, paddedAt now b s) := by
  have hadmits : admits (paddedAt now b s) (s.lg.partStart + s.lg.flFirst + s.lg.flNum) (BitVec.ofNat 32 (blocksToWrite b s)) = false := by
    refine (admits_eq_false_iff ..).mpr (.inr (.inr ?_))
    rw [toNat_blocksToWrite hwf hcount]
    exact hbeyond
  unfold drainIssue
  refine Eq.trans (preempt_bind (quiet_of_drainsAt hdrains rfl)) ?_
  dsimp only
  rw [count_paddedAt hwf hcount, Nat.mul_div_cancel_left _ (by decide)]
  refine (if_neg h).trans ?_
  rw [show startOp .write (flightNextBlock (paddedAt now b s).lg) (BitVec.ofNat 32 (min _ (flightRemaining (paddedAt now b s).lg))) _ _ _ _ = _
    from startOp_of_not_admits hadmits ..]

/-- The write of the buffer's blocks at the flight's end (R393). -/
theorem drainIssue_started (h : blocksToWrite b s ≠ 0)
    (hroom : (s.lg.partStart + s.lg.flFirst + s.lg.flNum).toNat + blocksToWrite b s ≤ s.sd.capacity.toNat) :
    drainIssue preemptPoint b (paddedAt now b s) = .ok (.yield,
      { opAccepted .write (s.lg.partStart + s.lg.flFirst + s.lg.flNum) (BitVec.ofNat 32 (blocksToWrite b s))
          ⟨.logbuf, BitVec.ofNat 64 (b * s.cfg.logBufCap)⟩ .logData (BitVec.ofNat 32 b) (paddedAt now b s) with
        lg := { s.lg with
          wif := .data, wifBuf := if b = 0 then 0 else 1, wifNblk := BitVec.ofNat 32 (blocksToWrite b s), tLastData := now
          oosPending := if blocksToWrite b s < ((s.sh.buf b).count.toNat + 511) / 512 then true else s.lg.oosPending } }) := by
  have hready : s.sd.state = .ready := by
    simp only [drainsAt, logFree, Bool.and_eq_true, beq_iff_eq] at hdrains
    exact hdrains.1.1.1.1.1.1.1.2
  have hadmits : admits (paddedAt now b s) (s.lg.partStart + s.lg.flFirst + s.lg.flNum) (BitVec.ofNat 32 (blocksToWrite b s)) = true := by
    refine (admits_iff ..).mpr ⟨hready, fun hzero => h ?_, ?_⟩
    · rw [← toNat_blocksToWrite hwf hcount, hzero]
      rfl
    · rw [toNat_blocksToWrite hwf hcount]
      exact hroom
  unfold drainIssue
  refine Eq.trans (preempt_bind (quiet_of_drainsAt hdrains rfl)) ?_
  dsimp only
  rw [count_paddedAt hwf hcount, Nat.mul_div_cancel_left _ (by decide)]
  refine (if_neg h).trans ?_
  rw [show startOp .write (flightNextBlock (paddedAt now b s).lg) (BitVec.ofNat 32 (min _ (flightRemaining (paddedAt now b s).lg))) _ _ _ _ = _
    from startOp_of_admits hadmits ..]
  rfl

end

/-! ### The poll -/

/-- With no persist owed the active state drains (R389). -/
theorem logHandler_drains {now : U32} {s : State} (h : drainsAt now s = true) (pre : Hook) :
    logHandler pre (ticked now s) = drain pre (ticked now s) := by
  simp only [drainsAt, logFree, Bool.and_eq_true, beq_iff_eq, Bool.not_eq_true', decide_eq_true_eq] at h
  obtain ⟨⟨⟨⟨⟨⟨⟨⟨⟨hstate, hwif⟩, hready⟩, hoos⟩, hpause⟩, hwithin⟩, _⟩, _⟩, _⟩, _⟩ := h
  have hnot : expired now s.lg.tLastPersist s.cfg.sbPersistIntervalMs = false := expired_eq_false_iff.mpr hwithin
  rw [logHandler, show (ticked now s).lg.state = .active from hstate]
  refine (if_neg (not_not_intro hwif)).trans ((if_neg (SdState.terminal_ready hready)).trans ?_)
  refine (if_neg (by rw [show (ticked now s).lg.oosPending = false from hoos]; decide)).trans ?_
  refine (if_neg (by rw [show (ticked now s).lg.pauseReq = false from hpause]; decide)).trans (if_neg ?_)
  rw [show expired (ticked now s).env.now (ticked now s).lg.tLastPersist (ticked now s).cfg.sbPersistIntervalMs = false from hnot]
  decide

theorem drain_none {now : U32} {s u : State} (h : drainsAt now s = true) (hselect : drainSelect (markedState now s) = (none, u)) :
    drain preemptPoint (ticked now s) = .ok (.yield, u) := by
  simp only [drainsAt, Bool.and_eq_true, beq_iff_eq, Bool.not_eq_true'] at h
  obtain ⟨⟨⟨⟨_, hip⟩, _⟩, _⟩, hcritical⟩ := h
  rw [drain, drainSection_eq hip hcritical, hselect]
  rfl

theorem drain_some {now : U32} {s u : State} {b : Nat} (h : drainsAt now s = true) (hselect : drainSelect (markedState now s) = (some b, u)) :
    drain preemptPoint (ticked now s) = drainPad preemptPoint b u >>= drainIssue preemptPoint b := by
  simp only [drainsAt, Bool.and_eq_true, beq_iff_eq, Bool.not_eq_true'] at h
  obtain ⟨⟨⟨⟨_, hip⟩, _⟩, _⟩, hcritical⟩ := h
  rw [drain, drainSection_eq hip hcritical, hselect]
  rfl

/-- A selected buffer that holds bytes is padded and issued. -/
theorem drain_selected {now : U32} {s : State} {b : Nat} (hwf : s.cfg.wf = true) (h : drainsAt now s = true) (hsel : selectedAt now b s)
    (hcount : (s.sh.buf b).count ≠ 0) (hcap : (s.sh.buf b).count.toNat ≤ s.cfg.logBufCap) :
    logHandler preemptPoint (ticked now s) = drainIssue preemptPoint b (paddedAt now b s) := by
  have hb : b < 2 := by rcases hsel with ⟨rfl, _⟩ | ⟨rfl, _⟩ <;> decide
  rw [logHandler_drains h, drain_some h ((drainSelect_selected hsel).trans (if_neg hcount)), drainPad_marked hwf h hb hcap]
  rfl

/-- The bytes of the padding, one by one (R391, R392). -/
theorem byteAt_tailPad (p : Params) (c : Nat) {k : Nat} (h : k < 512 * ((c + 511) / 512) - c) : byteAt (tailPad p c) k =
    if 4 ≤ 512 * ((c + 511) / 512) - c ∧ k < 4 then
      byteAt [p.spacerType.extractLsb' 0 2 ++ p.spacerClass, p.spacerType.extractLsb' 2 8,
        BitVec.ofNat 8 (512 * ((c + 511) / 512) - c - 4), BitVec.ofNat 8 ((512 * ((c + 511) / 512) - c - 4) / 256)] k
    else 0 := by
  unfold tailPad
  dsimp only
  by_cases hroom : 4 ≤ 512 * ((c + 511) / 512) - c
  · rw [if_pos hroom]
    by_cases hk : k < 4
    · rw [if_pos ⟨hroom, hk⟩]
      exact byteAt_append_left _ hk
    · obtain ⟨j, rfl⟩ : ∃ j, k = 4 + j := ⟨k - 4, by omega⟩
      rw [if_neg (fun hand => hk hand.2)]
      exact (byteAt_append_right [_, _, _, _] _ j).trans (byteAt_replicate_zero _ j)
  · rw [if_neg hroom, if_neg (fun hand => hroom hand.1)]
    exact byteAt_replicate_zero _ k

/-- Settles O48: the selected buffer is padded to its last block's end, and its blocks are written at the flight's end. -/
theorem drainWritesBuffer : Obligations.DrainWritesBuffer := by
  intro s now b hwf hmem h hsel c base need n block issued hzero hcap hn hroom
  have hb : b < 2 := by rcases hsel with ⟨rfl, _⟩ | ⟨rfl, _⟩ <;> decide
  have hcount : (s.sh.buf b).count ≠ 0 := fun hc => hzero (congrArg BitVec.toNat hc)
  have hflags : s.lg.oosPending = false ∧ s.env.ctx = .main := by
    simp only [drainsAt, Bool.and_eq_true, beq_iff_eq, Bool.not_eq_true'] at h
    obtain ⟨⟨⟨⟨⟨⟨⟨_, hoos⟩, _⟩, _⟩, _⟩, _⟩, hctx⟩, _⟩ := h
    exact ⟨hoos, hctx⟩
  obtain ⟨hoos, hctx⟩ := hflags
  have hrun := drain_selected hwf h hsel hcount hcap
  rw [drainIssue_started hwf h hcap hn hroom] at hrun
  have hlen : (tailPad s.cfg c).length = 512 * need - c := length_tailPad s.cfg c
  have hneed : c ≤ 512 * need := by omega
  refine ⟨_, exec_logService (logLoop_yield hrun 7), rfl, ?_, rfl, rfl, ?_, ?_, rfl, rfl, fun a ha => ?_, fun k hk => ?_⟩
  · exact congrArg State.env (putRet_main (by exact hctx) .none)
  · have hif : (if n < need then true else s.lg.oosPending) = decide (n < need) := by
      rw [hoos]
      cases hd : decide (n < need) <;> simp_all
    exact congrArg (fun x => { s.lg with
      wif := .data, wifBuf := if b = 0 then 0 else 1, wifNblk := BitVec.ofNat 32 n, tLastData := now, oosPending := x }) hif
  · have hset : ((markedAt now s).setBuf b fun x => { x with count := BitVec.ofNat 32 (512 * ((x.count.toNat + 511) / 512)) }) =
        (markedAt now s).setBuf b fun x => { x with count := BitVec.ofNat 32 (512 * need) } :=
      Shared.setBuf_congr (by rw [count_markedAt])
    exact hset
  · exact State.peek_poke_outside s .logbuf .logbuf (base + c) a (tailPad s.cfg c) (.inr (by omega))
  · exact (peek_poke (s := s) (sp := .logbuf) (a := base + c) hmem (lt_of_lt_of_eq hk hlen.symm)).trans (byteAt_tailPad s.cfg c hk)

/-- Settles O49: nothing selected, an empty buffer, a refused write, and a full flight's persist. -/
theorem drainWritesNothing : Obligations.DrainWritesNothing := by
  intro s now hwf h
  refine ⟨fun h0 h1 => ?_, fun b hsel hzero => ?_, fun b hsel hcount hcap => ?_⟩
  · have hrun := logHandler_drains h preemptPoint
    rw [drain_none h (drainSelect_none h0 h1)] at hrun
    exact exec_logService (logLoop_yield hrun 7)
  · have hrun := logHandler_drains h preemptPoint
    rw [drain_none h ((drainSelect_selected hsel).trans (if_pos hzero))] at hrun
    exact exec_logService (logLoop_yield hrun 7)
  · intro left block
    refine ⟨fun hleft hbeyond => ?_, fun hleft hvalid hroom => ?_⟩
    · have hpos : (s.sh.buf b).count.toNat ≠ 0 := fun hz => hcount (BitVec.eq_of_toNat_eq hz)
      have hrun := drain_selected hwf h hsel hcount hcap
      rw [drainIssue_refused hwf h hcap (by unfold blocksToWrite; omega) hbeyond] at hrun
      exact exec_logService (logLoop_yield hrun 7)
    · have hrun := drain_selected hwf h hsel hcount hcap
      rw [drainIssue_full hwf h hcap (by unfold blocksToWrite; omega)] at hrun
      have hfree : logFree s = true ∧ s.lg.pauseReq = false ∧ s.sd.state = .ready := by
        simp only [drainsAt, logFree, Bool.and_eq_true, beq_iff_eq, Bool.not_eq_true'] at h ⊢
        obtain ⟨⟨⟨⟨⟨⟨⟨hfree, _⟩, hpause⟩, _⟩, _⟩, _⟩, _⟩, _⟩ := h
        exact ⟨hfree, hpause, hfree.2⟩
      obtain ⟨hfree, hpause, hready⟩ := hfree
      have hpersist := activeHandler_persists (s := { paddedAt now b s with lg := { s.lg with oosPending := true } }) (kind := .oos) hfree
        (.inl ⟨rfl, rfl⟩) preemptPoint
      rw [persist_started (s := { paddedAt now b s with lg := { s.lg with oosPending := true } }) hvalid hready hroom] at hpersist
      have hlg : ({ s.lg with wif := .sb, sbKind := .oos, pauseReq := s.lg.pauseReq && SbKind.oos != .pause, oosPending := true && SbKind.oos != .oos } : Lg) =
          { s.lg with wif := .sb, sbKind := .oos, oosPending := false } := by
        rw [show (s.lg.pauseReq && SbKind.oos != .pause) = s.lg.pauseReq by rw [hpause]; rfl]
        rfl
      rw [exec_logService ((logLoop_again hrun 7).trans (logLoop_yield hpersist 6))]
      exact congrArg (fun lg => Host.Outcome.next (putRet .none (State.poke { opAccepted .write s.lg.partStart 1 ⟨.sbimg, 0⟩ .logSb 2 (paddedAt now b s) with lg := lg }
        .sbimg (96 + 12 * s.lg.flightIdx.toNat) (le32Bytes s.lg.flFirst ++ le32Bytes s.lg.flNum ++ le32Bytes s.lg.flTs)))) hlg

end Sys2Proof.Machine
end

section
/-! No operation but a loop out of rounds reaches a bound, and `checkout`'s rounds suffice (45_reservation.md R431, R443; log 20). -/

namespace Sys2Proof.Machine

/-! ### Results that are no reached bound -/

/-- Neither bound on rounds was reached. -/
def Returns {α : Type} (x : Except Stop α) : Prop := x ≠ .error (.fault .pollBound) ∧ x ≠ .error (.fault .checkoutBound)

theorem returns_ok {α : Type} (a : α) : Returns (.ok a : Except Stop α) := ⟨nofun, nofun⟩

theorem returns_refused {α : Type} (r : Refusal) : Returns (.error (.refused r) : Except Stop α) := ⟨nofun, nofun⟩

theorem returns_meaningless {α : Type} : Returns (.error (.fault .meaninglessRead) : Except Stop α) := ⟨nofun, nofun⟩

theorem returns_tuple {α : Type} : Returns (.error (.fault .controlTuple) : Except Stop α) := ⟨nofun, nofun⟩

theorem returns_address {α : Type} (sp : Space) (a : Nat) : Returns (.error (.fault (.address sp a)) : Except Stop α) := ⟨nofun, nofun⟩

theorem returns_point {α : Type} (w : U32) : Returns (.error (.fault (.insertionPoint w)) : Except Stop α) := ⟨nofun, nofun⟩

theorem returns_bind {α β : Type} {x : Except Stop α} {f : α → Except Stop β} (hx : Returns x) (hf : ∀ a, x = .ok a → Returns (f a)) :
    Returns (x >>= f) := by
  cases x with
  | ok a => exact hf a rfl
  | error e => exact ⟨fun h => hx.1 (congrArg Except.error (Except.error.inj h)), fun h => hx.2 (congrArg Except.error (Except.error.inj h))⟩

theorem returns_map {α β : Type} {x : Except Stop α} {f : α → β} (hx : Returns x) : Returns (x.map f) := by
  cases x with
  | ok a => exact returns_ok (f a)
  | error e => exact ⟨fun h => hx.1 (congrArg Except.error (Except.error.inj h)), fun h => hx.2 (congrArg Except.error (Except.error.inj h))⟩

theorem returns_ite {α : Type} {p : Prop} [Decidable p] {x y : Except Stop α} (hx : p → Returns x) (hy : ¬p → Returns y) :
    Returns (if p then x else y) := by
  split
  next h => exact hx h
  next h => exact hy h

theorem ofOutcome_toOutcome (x : Except Stop State) : ofOutcome (toOutcome x) = x := by
  rcases x with (f | r) | t <;> rfl

/-- The outcome of a result that reached no bound. -/
theorem toOutcome_ne_bound {x : Except Stop State} (h : Returns x) : toOutcome x ≠ .fault .pollBound ∧ toOutcome x ≠ .fault .checkoutBound := by
  have hback : ∀ f, toOutcome x = .fault f → x = .error (.fault f) := fun f hf => by rw [← ofOutcome_toOutcome x, hf]; rfl
  exact ⟨fun hf => h.1 (hback _ hf), fun hf => h.2 (hback _ hf)⟩

/-! ### Memory -/

theorem returns_readBytes (s : State) (sp : Space) (a n : Nat) : Returns (readBytes s sp a n) :=
  returns_ite (fun _ => returns_ok _) (fun _ => returns_address _ _)

theorem returns_writeBytes (s : State) (sp : Space) (a : Nat) (bytes : List Byte) : Returns (writeBytes s sp a bytes) :=
  returns_ite (fun _ => returns_ok _) (fun _ => returns_address _ _)

theorem returns_copySegments (segs : List (HostAddr × U32)) (p : Nat) (s : State) : Returns (copySegments p segs s) := by
  induction segs generalizing p s with
  | nil => exact returns_ok s
  | cons x rest ih =>
    exact returns_bind (returns_readBytes ..) fun b _ => returns_bind (returns_writeBytes ..) fun u _ => ih _ u

/-! ### Atomic steps -/

/-- What an atomic step's arrivals leave: the parameters; and either the insertion point and the schedule, or fewer batches to come. -/
def Passes (s t : State) : Prop :=
  t.cfg = s.cfg ∧ (t.sh.ip = s.sh.ip ∧ t.env.irqs.length = s.env.irqs.length ∨ t.env.irqs.length < s.env.irqs.length)

theorem Passes.refl (s : State) : Passes s s := ⟨rfl, .inl ⟨rfl, rfl⟩⟩

theorem Passes.trans {s t u : State} (hst : Passes s t) (htu : Passes t u) : Passes s u := by
  obtain ⟨hcfg, hst⟩ := hst
  obtain ⟨hcfg', htu⟩ := htu
  refine ⟨hcfg'.trans hcfg, ?_⟩
  rcases hst with ⟨hip, hirqs⟩ | hirqs <;> rcases htu with ⟨hip', hirqs'⟩ | hirqs'
  · exact .inl ⟨hip'.trans hip, hirqs'.trans hirqs⟩
  · exact .inr (hirqs ▸ hirqs')
  · exact .inr (hirqs'.trans_lt hirqs)
  · exact .inr (hirqs'.trans hirqs)

/-- A buffer's fields are no part of it. -/
theorem Passes.setBuf (s : State) (i : Nat) (f : Buf → Buf) : Passes s (s.onSh fun x => x.setBuf i f) :=
  ⟨rfl, .inl ⟨Shared.setBuf_ip _ _ _, rfl⟩⟩

/-- A hook whose calls return, and pass so. -/
structure Passing (pre : Hook) : Prop where
  returns : ∀ s, Returns (pre s)
  passes : ∀ {s t}, pre s = .ok t → Passes s t

section
variable {pre : Hook} (hpre : Passing pre)
include hpre

theorem passes_firstEmpty {ks : List Nat} {s t : State} {o : Option Nat} (h : firstEmpty pre ks s = .ok (o, t)) : Passes s t := by
  induction ks generalizing s with
  | nil => cases h; exact .refl _
  | cons k rest ih =>
    obtain ⟨u, hu, ⟨_, _, rfl⟩ | ⟨_, h⟩⟩ := firstEmpty_cons h
    · exact hpre.passes hu
    · exact (hpre.passes hu).trans (ih h)

theorem passes_vacate {v : Bool} {i : Nat} {s t : State} (h : vacate pre v i s = .ok t) : Passes s t := by
  rcases vacate_cases h with ⟨_, rfl⟩ | ⟨_, u, hu, ⟨_, rfl⟩ | ⟨_, u', hu', rfl⟩⟩
  · exact .refl _
  · exact hpre.passes hu
  · exact ((hpre.passes hu).trans (hpre.passes hu')).trans (.setBuf _ _ _)

theorem returns_firstEmpty (ks : List Nat) (s : State) : Returns (firstEmpty pre ks s) := by
  induction ks generalizing s with
  | nil => exact returns_ok _
  | cons k rest ih => exact returns_bind (hpre.returns s) fun u _ => returns_ite (fun _ => returns_ok _) (fun _ => ih u)

theorem returns_vacate (v : Bool) (i : Nat) (s : State) : Returns (vacate pre v i s) :=
  returns_ite
    (fun _ => returns_bind (hpre.returns s) fun u _ => returns_ite (fun _ => returns_ok _)
      (fun _ => returns_bind (hpre.returns u) fun _ _ => returns_ok _))
    (fun _ => returns_ok _)

/-! ### The rounds of `checkout` (R431) -/

omit hpre in
/-- The rounds a checkout still needs from a word observed: two for each batch to come, two if the word is stale, and one with room or
two without. -/
def roundsLeft (len : Nat) (old : U32) (s : State) : Nat :=
  2 * s.env.irqs.length + (if s.sh.ip = old then 0 else 2) + (if hasRoom s.cfg len old then 1 else 2)

omit hpre in
/-- What is needed from the word last seen, after it was seen. -/
theorem roundsLeft_seen {len : Nat} {s t : State} (h : Passes s t) : roundsLeft len s.sh.ip t ≤ 2 * s.env.irqs.length + 2 := by
  obtain ⟨_, h⟩ := h
  unfold roundsLeft
  rcases h with ⟨hip, hirqs⟩ | hirqs
  · rw [if_pos hip]
    split <;> omega
  · split <;> split <;> omega

omit hpre in
/-- A word that no longer stands was stale, or a batch came in between. -/
theorem lt_roundsLeft_of_changed {len : Nat} {old : U32} {s t : State} (h : Passes s t) (hother : t.sh.ip ≠ old) :
    2 * t.env.irqs.length + 2 < roundsLeft len old s := by
  obtain ⟨_, h⟩ := h
  unfold roundsLeft
  rcases h with ⟨hip, hirqs⟩ | hirqs
  · rw [if_neg (hip ▸ hother)]
    split <;> omega
  · split <;> split <;> omega

/-- With as many rounds as are needed the loop returns. -/
theorem returns_checkoutLoop {len fuel : Nat} {old : U32} {s : State} (hlen : len ≤ s.cfg.logBufCap) (hfuel : roundsLeft len old s ≤ fuel) :
    Returns (checkoutLoop pre len fuel old s) := by
  induction fuel generalizing old s with
  | zero => unfold roundsLeft at hfuel; split at hfuel <;> split at hfuel <;> omega
  | succ fuel ih =>
    unfold checkoutLoop
    refine returns_ite (fun _ => returns_point old) (fun hwf => ?_)
    simp only [Bool.not_eq_true', Bool.not_eq_false] at hwf
    refine returns_ite (fun hroom => ?_) (fun hroom => ?_)
    · refine returns_bind (hpre.returns s) fun s1 h1 => ?_
      refine returns_bind (hpre.returns (addCheckout (ipIdx old) s1)) fun s2 h2 => ?_
      have hpass : Passes s s2 := ((hpre.passes h1).trans (.setBuf _ _ _)).trans (hpre.passes h2)
      refine returns_ite (fun _ => returns_bind (hpre.returns _) fun _ _ => returns_ok _) (fun hother => ?_)
      refine returns_bind (hpre.returns s2) fun s3 h3 => ?_
      have hseen : Passes s2 (subCheckout (ipIdx old) s3) := (hpre.passes h3).trans (.setBuf _ _ _)
      refine ih (s := subCheckout (ipIdx old) s3) ?_ ?_
      · rw [(hpass.trans hseen).1]
        exact hlen
      · have hlt := lt_roundsLeft_of_changed (len := len) hpass hother
        have hle := roundsLeft_seen (len := len) hseen
        omega
    · refine returns_bind (returns_firstEmpty hpre _ s) fun ⟨o, s1⟩ h1 => ?_
      have hfirst := passes_firstEmpty hpre h1
      cases o with
      | none => exact returns_bind (hpre.returns s1) fun _ _ => returns_ok _
      | some j =>
        refine returns_bind (hpre.returns s1) fun s2 h2 => ?_
        have hpass : Passes s s2 := hfirst.trans (hpre.passes h2)
        refine returns_ite (fun hsame => ?_) (fun hother => ?_)
        · refine returns_bind (returns_vacate hpre _ _ _) fun s3 h3 => ?_
          have hafter := passes_vacate hpre h3
          have hcfg : s3.cfg = s.cfg := hafter.1.trans hpass.1
          have hstart := hasRoom_start s.cfg (candidates_lt (ipIdx_lt hwf) (firstEmpty_mem h1)) hlen
          refine ih (hcfg ▸ hlen) ?_
          have hirqs : s2.env.irqs.length ≤ s.env.irqs.length := by
            rcases hpass.2 with ⟨_, h⟩ | h <;> omega
          have hleft : roundsLeft len (mkIp true j 0) s3 ≤ 2 * s2.env.irqs.length + 1 := by
            unfold roundsLeft
            rw [hcfg, hstart, if_pos rfl]
            rcases hafter.2 with ⟨hip, h⟩ | h
            · have hip : s3.sh.ip = mkIp true j 0 := hip
              have h : s3.env.irqs.length = s2.env.irqs.length := h
              rw [if_pos hip, h]
            · have h : s3.env.irqs.length < s2.env.irqs.length := h
              split <;> omega
          have hneed : 2 * s.env.irqs.length + 2 ≤ roundsLeft len old s := by
            have hnot : hasRoom s.cfg len old = false := Bool.eq_false_iff.mpr hroom
            unfold roundsLeft
            rw [hnot]
            simp only [Bool.false_eq_true, if_false]
            omega
          omega
        · refine ih (hpass.1 ▸ hlen) ?_
          have hlt := lt_roundsLeft_of_changed (len := len) hpass hother
          have hle := roundsLeft_seen (len := len) (.refl s2)
          omega

theorem returns_checkoutWith (len : Nat) (s : State) : Returns (checkoutWith pre len s) := by
  refine returns_ite (fun _ => returns_ok _) (fun hlen => returns_bind (hpre.returns s) fun u hu => ?_)
  push Not at hlen
  refine returns_checkoutLoop hpre ((hpre.passes hu).1 ▸ hlen.2) ?_
  exact (roundsLeft_seen (.refl u)).trans (by omega)

/-! ### The producers -/

theorem returns_checkinWith (h : Nat) (s : State) : Returns (checkinWith pre h s) :=
  returns_ite (fun _ => returns_ok _) (fun _ => returns_bind (hpre.returns s) fun _ _ => returns_ite (fun _ => returns_ok _) (fun _ => returns_ok _))

theorem returns_appendRecord (total : Nat) (segs : List (HostAddr × U32)) (s : State) : Returns (appendRecord pre total segs s) := by
  refine returns_bind (returns_checkoutWith hpre total s) fun ⟨g, u⟩ _ => ?_
  cases g with
  | refused e => exact returns_ok _
  | handle w => exact returns_bind (returns_copySegments ..) fun v _ => returns_bind (returns_checkinWith hpre _ v) fun _ _ => returns_ok _

theorem returns_logGatherWith (segments : HostAddr) (count : U32) (s : State) : Returns (logGatherWith pre segments count s) :=
  returns_ite (fun _ => returns_ok _) (fun _ => returns_bind (returns_readBytes ..) fun _ _ =>
    returns_ite (fun _ => returns_ok _) (fun _ => returns_appendRecord hpre _ _ s))

theorem returns_doCheckout (len : U32) (s : State) : Returns (doCheckout pre len s) :=
  returns_bind (returns_checkoutWith hpre _ s) fun _ _ => returns_ok _

theorem returns_doCheckin (w : U32) (s : State) : Returns (doCheckin pre w s) :=
  returns_bind (returns_checkinWith hpre _ s) fun _ _ => returns_ok _

theorem returns_doLog (data : HostAddr) (len : U32) (s : State) : Returns (doLog pre data len s) :=
  returns_bind (returns_appendRecord hpre _ _ s) fun _ _ => returns_ok _

theorem returns_doLogGather (segments : HostAddr) (count : U32) (s : State) : Returns (doLogGather pre segments count s) :=
  returns_bind (returns_logGatherWith hpre _ _ s) fun _ _ => returns_ok _

theorem returns_doMissedCheckouts (s : State) : Returns (doMissedCheckouts pre s) :=
  returns_bind (hpre.returns s) fun _ _ => returns_ok _

end

/-! ### Main's atomic steps -/

theorem passing_noPreempt : Passing noPreempt where
  returns := returns_ok
  passes := fun h => by cases h; exact .refl _

theorem returns_irqCall (i : Instr) (s : State) : Returns (irqCall i s) := by
  cases i
  case checkout len => exact returns_doCheckout passing_noPreempt len s
  case checkin w => exact returns_doCheckin passing_noPreempt w s
  case log data len => exact returns_doLog passing_noPreempt data len s
  case logGather segments count => exact returns_doLogGather passing_noPreempt segments count s
  case flightBlocks => exact returns_ok _
  case missedCheckouts => exact returns_doMissedCheckouts passing_noPreempt s
  all_goals exact returns_refused _

theorem returns_irqCalls (batch : List Instr) (s : State) : Returns (irqCalls batch s) := by
  induction batch generalizing s with
  | nil => exact returns_ok s
  | cons i rest ih =>
    unfold irqCalls
    exact returns_bind (returns_irqCall i s) fun u _ => ih u

/-- A batch that arrives is one fewer to come. -/
theorem passing_preemptPoint : Passing preemptPoint where
  returns := by
    intro s
    unfold preemptPoint
    split
    · exact returns_bind (returns_irqCalls ..) fun _ _ => returns_ok _
    · exact returns_ok s
  passes := by
    intro s t h
    rcases preemptPoint_cases h with rfl | ⟨batch, rest, u, _, _, hirqs, hu, rfl⟩
    · exact .refl _
    · have hrun := resRun_irqCalls hu
      refine ⟨hrun.cfg, .inr ?_⟩
      have hle : u.env.irqs.length ≤ rest.length := hrun.irqs.length_le
      rw [hirqs]
      exact Nat.lt_succ_of_le hle

/-! ### A client's calls and the callbacks (R469) -/

theorem returns_hostQuery (a : HostAddr) (n : Nat) (f : List Byte → Ret) (s : State) : Returns (hostQuery a n f s) :=
  returns_bind (returns_readBytes ..) fun _ _ => returns_ok _

theorem returns_hostStore (a : HostAddr) (off : Nat) (bytes : List Byte) (r : Ret) (s : State) : Returns (hostStore a off bytes r s) :=
  returns_ite (fun _ => returns_ok _) (fun _ => returns_address _ _)

/-- The result of a call of which the outcome is made. -/
theorem returns_ofOutcome {x : Except Stop State} (h : Returns x) : Returns (ofOutcome (toOutcome x)) := by
  rw [ofOutcome_toOutcome]
  exact h

/-- A call with an index above the last is refused. -/
theorem returns_indexed {p : Prop} [Decidable p] {s : State} {x : Except Stop State} (h : Returns x) :
    Returns (ofOutcome (if p then .next (putCode .rejected s) else toOutcome x)) := by
  split
  · exact returns_ok _
  · exact returns_ofOutcome h

theorem returns_call (i : Instr) (s : State) : Returns (ofOutcome (callFromCallback i s)) := by
  cases i
  case log data len => exact returns_ofOutcome (returns_doLog passing_preemptPoint data len s)
  case logGather segments count => exact returns_ofOutcome (returns_doLogGather passing_preemptPoint segments count s)
  case checkout len => exact returns_ofOutcome (returns_doCheckout passing_preemptPoint len s)
  case checkin handle => exact returns_ofOutcome (returns_doCheckin passing_preemptPoint handle s)
  case missedCheckouts => exact returns_ofOutcome (returns_doMissedCheckouts passing_preemptPoint s)
  case mbrInitTable | sbInit => exact returns_ofOutcome (returns_hostStore ..)
  case mbrGetEntry | sbFlightGet => exact returns_indexed (returns_hostQuery ..)
  case mbrInitEntry | sbFlightSet => exact returns_indexed (returns_hostStore ..)
  case crc7 | crc16 | parseResponse | csdCapacity | mbrIsValid | mbrEntryIsValid | mbrEntryType | mbrEntryStartLba | mbrEntryLength
      | sbIsValid | sbVersion | sbContinued | sbPartitionLength | sbFlightSlotFor =>
    exact returns_ofOutcome (returns_hostQuery ..)
  case read | write | status | capacityBlocks | sdState | sdLastError | pause | resume | setFlightTimestamp | flightBlocks | logState
      | logFailReason | crc16Update | buildCommand | hdrEncode | hdrDecode =>
    exact returns_ok _
  all_goals exact returns_refused _

theorem returns_callbackCalls (calls : List Instr) (s : State) : Returns (callbackCalls calls s) := by
  induction calls generalizing s with
  | nil => exact returns_ok s
  | cons i rest ih => exact returns_bind (returns_call i s) fun _ _ => ih _

theorem returns_logDataCb (c : CbCall) (s : State) : Returns (logDataCb preemptPoint c s) :=
  returns_ite (fun _ => returns_meaningless) (fun _ => returns_ite
    (fun _ => returns_bind (passing_preemptPoint.returns _) fun _ _ => returns_bind (passing_preemptPoint.returns _) fun _ _ => returns_ok _)
    (fun _ => returns_ok _))

theorem returns_runCallback (s : State) : Returns (runCallback s) := by
  unfold runCallback
  split
  · exact returns_ok s
  · dsimp only
    split
    · exact returns_ok _
    · exact returns_logDataCb ..
    · exact returns_ok _
    · exact returns_callbackCalls ..

/-! ### The log engine's loop (R388) -/

theorem returns_persist (kind : SbKind) (s : State) : Returns (persist kind s) := by
  unfold persist
  refine returns_ite (fun _ => returns_meaningless) (fun _ => ?_)
  dsimp only
  split <;> exact returns_ok _

theorem returns_drainPad (b : Nat) (s : State) : Returns (drainPad preemptPoint b s) :=
  returns_bind (passing_preemptPoint.returns s) fun _ _ => returns_ite (fun _ => returns_ok _) (fun _ =>
    returns_bind (returns_writeBytes ..) fun v _ => returns_bind (passing_preemptPoint.returns v) fun _ _ => returns_ok _)

theorem returns_drainIssue (b : Nat) (s : State) : Returns (drainIssue preemptPoint b s) := by
  unfold drainIssue
  refine returns_bind (passing_preemptPoint.returns s) fun u _ => ?_
  dsimp only
  refine returns_ite (fun _ => returns_ok _) (fun _ => ?_)
  split <;> exact returns_ok _

theorem returns_drain (s : State) : Returns (drain preemptPoint s) := by
  refine returns_bind (returns_ite (fun _ => returns_point _) (fun _ => returns_ok _)) fun ⟨o, u⟩ _ => ?_
  cases o with
  | none => exact returns_ok _
  | some b => exact returns_bind (returns_drainPad b u) fun v _ => returns_drainIssue b v

theorem returns_logHandler (s : State) : Returns (logHandler preemptPoint s) := by
  unfold logHandler
  split
  case h_7 =>
    exact returns_ite (fun _ => returns_ok _) fun _ => returns_ite (fun _ => returns_ok _) fun _ =>
      returns_ite (fun _ => returns_map (returns_persist ..)) fun _ => returns_ite (fun _ => returns_map (returns_persist ..)) fun _ =>
      returns_ite (fun _ => returns_map (returns_persist ..)) fun _ => returns_drain s
  all_goals exact returns_ok _

/-- The handler runs a poll of the log engine may still take after this one. -/
def logRank (l : Lg) : Nat :=
  match l.state with
  | .sbParsed => 3
  | .active => if l.oosPending then 1 else 2
  | .ptParsed => 2
  | .acqPt | .acqSb | .paused => 1
  | .ptPending | .sbPending | .tooManyRetries | .noValidTable | .noValidPartition | .outOfSpace | .failed => 0

theorem logRank_acquire {block : U32} {pending : LogState} {s t : State} (h : acquire block pending s = (.again, t)) : logRank t.lg = 0 := by
  unfold acquire at h
  split at h
  · cases h; rfl
  split at h
  · cases h
  split at h
  · cases h
  · cases h; rfl

theorem logRank_parseTable (s : State) : logRank (parseTable s).lg < 2 := by
  unfold parseTable
  split
  · exact Nat.zero_lt_two
  split
  · exact Nat.zero_lt_two
  · exact Nat.one_lt_two

theorem logRank_parseSuperblock (s : State) : logRank (parseSuperblock s).lg < 3 := by
  unfold parseSuperblock selectFlight
  split
  · exact Nat.zero_lt_succ _
  split
  · exact Nat.zero_lt_succ _
  split
  · exact Nat.zero_lt_succ _
  · exact Nat.lt_succ_self _
  · exact Nat.lt_succ_self _

/-- A drain that asks for another run has found no space. -/
theorem logRank_drain {s t : State} (hactive : s.lg.state = .active) (h : drain preemptPoint s = .ok (.again, t)) : logRank t.lg = 1 := by
  obtain ⟨sel, hsel, ⟨_, hr⟩ | ⟨b, u, _, hpad, hissue⟩⟩ := drain_cases h
  · cases hr
  · obtain ⟨_, _, _, hlg⟩ := logRun_drainSection hsel
    obtain ⟨v, hv, ⟨_, hr⟩ | ⟨_, _, hr⟩ | ⟨_, _, hr⟩⟩ := drainIssue_cases hissue
    · cases hr
      have hkept : v.lg = s.lg := ((hookRuns_preemptPoint hv).lg.trans (resRun_drainPad hookRuns_preemptPoint hpad).lg).trans hlg
      simp only [logRank, State.onLg, hkept, hactive, if_true]
    · cases hr
    · cases hr

theorem logRank_activeHandler {s t : State} (hactive : s.lg.state = .active) (h : activeHandler preemptPoint s = .ok (.again, t)) :
    logRank t.lg < logRank s.lg := by
  have hrank : logRank s.lg = if s.lg.oosPending then 1 else 2 := by rw [logRank, hactive]
  unfold activeHandler at h
  split at h
  · cases h
  split at h
  · cases h
    have hpos : 0 < logRank s.lg := by rw [hrank]; split <;> decide
    exact hpos
  split at h
  · cases (persist_map h).2
  next hoos =>
  split at h
  · cases (persist_map h).2
  split at h
  · cases (persist_map h).2
  · rw [logRank_drain hactive h, hrank, if_neg hoos]
    exact Nat.one_lt_two

/-- A handler run that asks for another comes nearer to the end. -/
theorem logRank_logHandler {s t : State} (h : logHandler preemptPoint s = .ok (.again, t)) : logRank t.lg < logRank s.lg := by
  unfold logHandler at h
  split at h
  case h_1 hstate | h_2 hstate =>
    have hrank : logRank s.lg = 1 := by rw [logRank, hstate]
    injection h with h
    have hzero := logRank_acquire h
    omega
  case h_5 hstate =>
    injection h with h
    injection h with _ h
    have hrank : logRank s.lg = 2 := by rw [logRank, hstate]
    rw [hrank, ← h]
    exact logRank_parseTable s
  case h_6 hstate =>
    injection h with h
    injection h with _ h
    have hrank : logRank s.lg = 3 := by rw [logRank, hstate]
    rw [hrank, ← h]
    exact logRank_parseSuperblock s
  case h_7 hstate => exact logRank_activeHandler hstate h
  case h_8 hstate =>
    rw [show logRank s.lg = 1 by rw [logRank, hstate]]
    unfold pausedHandler at h
    split at h
    · cases h; exact Nat.zero_lt_one
    · cases h
  all_goals cases h

theorem returns_logLoop {fuel : Nat} {s : State} (h : logRank s.lg < fuel) : Returns (logLoop preemptPoint fuel s) := by
  induction fuel generalizing s with
  | zero => exact absurd h (Nat.not_lt_zero _)
  | succ fuel ih =>
    refine returns_bind (returns_logHandler s) fun ⟨c, t⟩ hrun => ?_
    cases c with
    | yield => exact returns_ok t
    | again => exact ih ((logRank_logHandler hrun).trans_le (Nat.le_of_lt_succ h))

theorem logRank_lt (l : Lg) : logRank l < 8 := by
  unfold logRank
  split
  case h_2 => split <;> decide
  all_goals decide

end Sys2Proof.Machine
end

section
/-! Every round of a service poll that asks for another consumes a received byte or moves the control tuple on (42_block_io.md R277; log 20):
a rank of the tuple, and what each handler does to it. -/

namespace Sys2Proof.Machine

/-! ### Ranks -/

/-- The rank of a command under way: a search ranks above what it leads to only once its window has passed. -/
def commandRank (p : Params) (now : U32) (d : Sd) : Nat :=
  match d.cmdPh with
  | .idle => 3
  | .opening => 2
  | .marshal => 1
  | .send => 0
  | .busy => if expired now d.tAnchor p.busyTimeoutMs then 5 else 0
  | .resp => if d.respGot ≠ 0 ∨ expired now d.tAnchor p.cmdTimeoutMs = true then 5 else 0
  | .done => 4

/-- The rank of a search of an operation. -/
def searchRank (now : U32) (d : Sd) (w : U32) : Nat := if expired now d.tAnchor w then 6 else 0

/-- The rank of a phase of an operation, or of the CSD read. -/
def phaseRank (p : Params) (now : U32) (d : Sd) : Nat :=
  match d.opPhase with
  | .rdCmd | .rdAbort | .wrCmd | .wrStatus | .wrAbort => commandRank p now d
  | .rdToken | .wrBusy | .wrFinalBusy | .wrStopBusy | .wrStopPostBusy => searchRank now d p.busyTimeoutMs
  | .rdStop | .wrDresp => searchRank now d p.cmdTimeoutMs
  | .rdData => 6
  | .none | .wrSend | .wrStopToken => 0

/-- The rank of the control tuple with a card present. A ready engine ranks as one whose client has just started an operation. -/
def tupleRank (p : Params) (now : U32) (d : Sd) : Nat :=
  match d.state with
  | .absent => 1
  | .ready => 3
  | .init =>
    match d.initStep with
    | .clocks => 0
    | .csd => phaseRank p now d
    | _ => commandRank p now d
  | .read | .write => phaseRank p now d
  | .failRetries | .unusable | .failed => 0

theorem expired_self (now w : U32) : expired now now w = false := by
  refine expired_eq_false_iff.mpr ?_
  rw [BitVec.sub_self]
  exact BitVec.le_def.mpr (Nat.zero_le _)

theorem commandRank_le (p : Params) (now : U32) (d : Sd) : commandRank p now d ≤ 5 := by
  unfold commandRank
  split
  case h_5 | h_6 => split <;> decide
  all_goals decide

theorem searchRank_le (now : U32) (d : Sd) (w : U32) : searchRank now d w ≤ 6 := by
  unfold searchRank
  split <;> decide

theorem phaseRank_le (p : Params) (now : U32) (d : Sd) : phaseRank p now d ≤ 6 := by
  have hcommand := commandRank_le p now d
  have hsearch := searchRank_le now d
  unfold phaseRank
  split
  case h_6 | h_7 | h_8 | h_9 | h_10 | h_11 | h_12 => exact hsearch _
  all_goals omega

theorem tupleRank_le (p : Params) (now : U32) (d : Sd) : tupleRank p now d ≤ 6 := by
  have hcommand := commandRank_le p now d
  have hphase := phaseRank_le p now d
  unfold tupleRank
  split
  case h_3 => split <;> omega
  all_goals omega

/-- A command is under way: a step of initialisation but the clocks and the CSD read, or a command's phase of an operation. -/
def commanding (d : Sd) : Prop :=
  (d.state = .init ∧ d.initStep ≠ .clocks ∧ d.initStep ≠ .csd) ∨
    ((d.state = .read ∨ d.state = .write) ∧
      (d.opPhase = .rdCmd ∨ d.opPhase = .rdAbort ∨ d.opPhase = .wrCmd ∨ d.opPhase = .wrStatus ∨ d.opPhase = .wrAbort))

/-- The phase decides: an operation, or the CSD read. -/
def phased (d : Sd) : Prop := (d.state = .init ∧ d.initStep = .csd) ∨ d.state = .read ∨ d.state = .write

theorem tupleRank_of_phased {p : Params} {now : U32} {d : Sd} (h : phased d) : tupleRank p now d = phaseRank p now d := by
  unfold tupleRank
  rcases h with ⟨hstate, hstep⟩ | hstate | hstate <;> rw [hstate]
  rw [hstep]

theorem tupleRank_of_commanding {p : Params} {now : U32} {d : Sd} (h : commanding d) : tupleRank p now d = commandRank p now d := by
  rcases h with ⟨hstate, hclocks, hcsd⟩ | ⟨hstate, hphase⟩
  · unfold tupleRank
    rw [hstate]
    cases hstep : d.initStep
    case clocks => exact absurd hstep hclocks
    case csd => exact absurd hstep hcsd
    all_goals rfl
  · rw [tupleRank_of_phased (.inr hstate), phaseRank]
    rcases hphase with h | h | h | h | h <;> rw [h]

/-! ### What a handler leads to -/

section
variable (p : Params) (now : U32)

/-- What the poll has still to work through: the retained bytes, then the rank. -/
def weight (d : Sd) : Nat := 8 * d.rxRetain.length + tupleRank p now d

/-- No transaction is begun or ended, no byte is retained, and the rank is at most this one. -/
structure Settles (n : Nat) (d e : Sd) : Prop where
  pending : e.xferPending = d.xferPending
  retained : e.rxRetain.length ≤ d.rxRetain.length
  rank : tupleRank p now e ≤ n

/-- No transaction is begun or ended, and the poll is nearer to its end. -/
def Nearer (d e : Sd) : Prop := e.xferPending = d.xferPending ∧ weight p now e < weight p now d

end

section
variable {p : Params} {now : U32} {d e f : Sd}

/-- The rank goes down. -/
theorem Settles.nearer {n : Nat} (h : Settles p now n d e) (hrank : n < tupleRank p now d) : Nearer p now d e := by
  obtain ⟨hpending, hretained, hle⟩ := h
  refine ⟨hpending, ?_⟩
  unfold weight
  omega

/-- A byte is consumed. -/
theorem Settles.consumed {n : Nat} (h : Settles p now n e f) (hn : n ≤ 7) (hpending : e.xferPending = d.xferPending)
    (hbyte : e.rxRetain.length < d.rxRetain.length) : Nearer p now d f := by
  obtain ⟨hpending', hretained, hle⟩ := h
  refine ⟨hpending'.trans hpending, ?_⟩
  unfold weight
  omega

theorem Settles.mono {m n : Nat} (h : Settles p now m d e) (hmn : m ≤ n) : Settles p now n d e :=
  ⟨h.pending, h.retained, h.rank.trans hmn⟩

/-- The end of an operation. -/
theorem settles_finish (success : Bool) (s : State) : Settles p now 3 s.sd (finish success .ready s).sd :=
  ⟨rfl, Nat.zero_le _, Nat.le_refl 3⟩

/-- A command about to start. -/
theorem settles_idle (hpending : e.xferPending = d.xferPending) (hretained : e.rxRetain.length ≤ d.rxRetain.length) (hin : commanding e)
    (hidle : e.cmdPh = .idle) : Settles p now 3 d e := by
  refine ⟨hpending, hretained, ?_⟩
  rw [tupleRank_of_commanding hin, commandRank, hidle]

end

/-! ### Searches and the command sub-machine -/

/-- A search that finds a byte consumes one. -/
theorem scan_consumes {q : Byte → Bool} {skip skip' : Bool} {bytes rest : List Byte} {b : Byte}
    (h : scan q skip bytes = (some b, skip', rest)) : rest.length < bytes.length := by
  induction bytes generalizing skip with
  | nil => rw [scan_nil] at h; cases h
  | cons x bytes ih =>
    have hmore : ∀ skip, scan q skip bytes = (some b, skip', rest) → rest.length < (x :: bytes).length := fun _ h => Nat.lt_succ_of_lt (ih h)
    cases skip with
    | true => exact hmore false h
    | false =>
      rw [scan] at h
      split at h
      · cases h; exact Nat.lt_succ_self _
      · exact hmore false h

/-- A search ends with a byte consumed, past its window, or with the poll. -/
theorem searchStep_ends (q : Byte → Bool) (w : U32) (s : State) :
    (∃ b skip rest, rest.length < s.sd.rxRetain.length ∧
      searchStep q w s = (.found b, s.onSd fun d => { d with rxSkip := skip, rxRetain := rest })) ∨
    (∃ skip, expired s.env.now s.sd.tAnchor w = true ∧
      searchStep q w s = (.timeout, s.onSd fun d => { d with rxSkip := skip, rxRetain := [] })) ∨
    ∃ u, searchStep q w s = (.wait, u) := by
  rcases searchStep_cases q w s with ⟨b, skip, rest, hscan, h⟩ | ⟨skip, rest, _, ⟨hlate, h⟩ | ⟨_, _, h⟩ | ⟨_, _, h⟩⟩
  · exact .inl ⟨b, skip, rest, scan_consumes hscan, h⟩
  · exact .inr (.inl ⟨skip, hlate, h⟩)
  · exact .inr (.inr ⟨_, h⟩)
  · exact .inr (.inr ⟨_, h⟩)

/-- A handler run that asks for another brings the poll nearer to its end. -/
def Forward (s : State) (r : Ctl × State) : Prop := r.1 = .again → Nearer s.cfg s.env.now s.sd r.2.sd

theorem forward_yield (s t : State) : Forward s (.yield, t) := nofun

theorem forward_again {s t : State} (h : Nearer s.cfg s.env.now s.sd t.sd) : Forward s (.again, t) := fun _ => h

section
variable {s : State} (hin : commanding s.sd)
include hin

omit hin in
/-- A command's rank, with the tuple kept. -/
theorem settles_command {n : Nat} {e : Sd} (he : commanding e) (hpending : e.xferPending = s.sd.xferPending)
    (hretained : e.rxRetain.length ≤ s.sd.rxRetain.length) (hrank : commandRank s.cfg s.env.now e ≤ n) :
    Settles s.cfg s.env.now n s.sd e := by
  refine ⟨hpending, hretained, ?_⟩
  rw [tupleRank_of_commanding he]
  exact hrank

theorem forward_startCmd (hidle : s.sd.cmdPh = .idle) (idx : BitVec 6) (arg : U32) (rtype : RType) (preBusy : Bool) :
    Forward s (.again, startCmd idx arg rtype preBusy s) := by
  have hrank : tupleRank s.cfg s.env.now s.sd = 3 := by rw [tupleRank_of_commanding hin, commandRank, hidle]
  refine forward_again (Settles.nearer (n := 2) ?_ (by omega))
  unfold startCmd
  dsimp only
  split
  · exact settles_command (by exact hin) rfl (Nat.le_refl _) (Nat.le_refl 2)
  split
  · refine settles_command (by exact hin) rfl (Nat.le_refl _) ?_
    show (if expired s.env.now s.env.now s.cfg.busyTimeoutMs then 5 else 0) ≤ 2
    rw [expired_self]
    decide
  · exact settles_command (by exact hin) rfl (Nat.le_refl _) (Nat.le_succ 1)

theorem forward_cmdOpen (hph : s.sd.cmdPh = .opening) : Forward s (cmdOpen s) := by
  have hrank : tupleRank s.cfg s.env.now s.sd = 2 := by rw [tupleRank_of_commanding hin, commandRank, hph]
  rcases openSession_cases s with ⟨_, e⟩ | ⟨_, e⟩ <;> simp only [cmdOpen, e]
  · split
    · refine forward_again (Settles.nearer (n := 1) (settles_command (by exact hin) rfl (Nat.zero_le _) ?_) (by omega))
      show (if expired s.env.now s.env.now s.cfg.busyTimeoutMs then 5 else 0) ≤ 1
      rw [expired_self]
      decide
    · exact forward_again (Settles.nearer (n := 1) (settles_command (by exact hin) rfl (Nat.zero_le _) (Nat.le_refl 1)) (by omega))
  · exact forward_yield _ _

theorem forward_cmdBusy (hph : s.sd.cmdPh = .busy) : Forward s (cmdBusy s) := by
  rcases searchStep_ends isReady s.cfg.busyTimeoutMs s with ⟨b, skip, rest, hbyte, e⟩ | ⟨skip, hlate, e⟩ | ⟨u, e⟩ <;> simp only [cmdBusy, e]
  · exact forward_again (Settles.consumed (n := 7)
      (e := (s.onSd fun d => { d with rxSkip := skip, rxRetain := rest }).sd)
      ⟨rfl, Nat.le_refl _, (tupleRank_le ..).trans (by decide)⟩ (Nat.le_refl 7) rfl hbyte)
  · have hrank : tupleRank s.cfg s.env.now s.sd = 5 := by rw [tupleRank_of_commanding hin, commandRank, hph]; exact if_pos hlate
    exact forward_again (Settles.nearer (n := 4) (settles_command (by exact hin) rfl (Nat.zero_le _) (Nat.le_refl 4)) (by omega))
  · exact forward_yield _ _

theorem forward_cmdMarshal (hph : s.sd.cmdPh = .marshal) : Forward s (cmdMarshal s) := by
  have hrank : tupleRank s.cfg s.env.now s.sd = 1 := by rw [tupleRank_of_commanding hin, commandRank, hph]
  exact forward_again (Settles.nearer (n := 0) (settles_command (by exact hin) rfl (Nat.le_refl _) (Nat.le_refl 0)) (by omega))

omit hin in
theorem length_fillResp (len : Nat) (bytes : List Byte) (got : Nat) (r : Vector Byte 5) :
    (fillResp len bytes got r).1.length ≤ bytes.length := by
  induction bytes generalizing got r with
  | nil => exact Nat.le_refl 0
  | cons b rest ih =>
    rw [fillResp]
    split
    · exact (ih _ _).trans (Nat.le_succ _)
    · exact Nat.le_refl _

theorem forward_cmdResp (hph : s.sd.cmdPh = .resp) : Forward s (cmdResp s) := by
  by_cases hgot : s.sd.respGot = 0
  · rcases searchStep_ends isResponse s.cfg.cmdTimeoutMs s with ⟨b, skip, rest, hbyte, e⟩ | ⟨skip, hlate, e⟩ | ⟨u, e⟩ <;>
      simp only [cmdResp, hgot, if_true, e]
    · exact forward_again (Settles.consumed (n := 7)
        (e := (s.onSd fun d => { d with rxSkip := skip, rxRetain := rest }).sd)
        ⟨rfl, Nat.le_refl _, (tupleRank_le ..).trans (by decide)⟩ (Nat.le_refl 7) rfl hbyte)
    · have hrank : tupleRank s.cfg s.env.now s.sd = 5 := by
        rw [tupleRank_of_commanding hin, commandRank, hph]
        exact if_pos (.inr hlate)
      exact forward_again (Settles.nearer (n := 4) (settles_command (by exact hin) rfl (Nat.zero_le _) (Nat.le_refl 4)) (by omega))
    · exact forward_yield _ _
  · have hrank : tupleRank s.cfg s.env.now s.sd = 5 := by
      rw [tupleRank_of_commanding hin, commandRank, hph]
      exact if_pos (.inl hgot)
    have hfill := length_fillResp (responseLength s.sd.cmdRtype) s.sd.rxRetain s.sd.respGot s.sd.resp
    unfold cmdResp
    dsimp only
    rw [if_neg hgot]
    split
    · split <;> exact forward_yield _ _
    · exact forward_again (Settles.nearer (n := 4) (settles_command (by exact hin) rfl hfill (Nat.le_refl 4)) (by omega))

theorem forward_cmdStep : Forward s (cmdStep s) := by
  unfold cmdStep
  split
  next hph => exact forward_cmdOpen hin hph
  next hph => exact forward_cmdBusy hin hph
  next hph => exact forward_cmdMarshal hin hph
  next => exact forward_yield _ _
  next hph => exact forward_cmdResp hin hph
  next => exact forward_yield _ _
  next => exact forward_yield _ _

end

/-! ### Initialisation -/

section
variable {p : Params} {now : U32} {d e : Sd}

/-- A step about to start its command, the CSD read apart. -/
theorem settles_step (hpending : e.xferPending = d.xferPending) (hretained : e.rxRetain.length ≤ d.rxRetain.length)
    (hstate : e.state = .init) (hidle : e.cmdPh = .idle) (hcsd : e.initStep ≠ .csd) : Settles p now 3 d e := by
  by_cases hclocks : e.initStep = .clocks
  · refine ⟨hpending, hretained, ?_⟩
    rw [tupleRank, hstate, hclocks]
    exact Nat.zero_le 3
  · exact settles_idle hpending hretained (.inl ⟨hstate, hclocks, hcsd⟩) hidle

/-- A search whose window begins now. -/
theorem settles_searching {n : Nat} (hpending : e.xferPending = d.xferPending) (hretained : e.rxRetain.length ≤ d.rxRetain.length)
    (hphased : phased e) (hanchor : e.tAnchor = now) (hsearch : ∃ w, phaseRank p now e = searchRank now e w) : Settles p now n d e := by
  obtain ⟨w, hw⟩ := hsearch
  refine ⟨hpending, hretained, ?_⟩
  rw [tupleRank_of_phased hphased, hw, searchRank, hanchor, expired_self]
  exact Nat.zero_le n

/-- The end of an initialisation that gave no card. -/
theorem settles_ended {n : Nat} (hpending : e.xferPending = d.xferPending) (hretained : e.rxRetain.length ≤ d.rxRetain.length)
    (hstate : e.state = .failRetries ∨ e.state = .unusable ∨ e.state = .failed) : Settles p now n d e := by
  refine ⟨hpending, hretained, ?_⟩
  rcases hstate with h | h | h <;> rw [tupleRank, h] <;> exact Nat.zero_le n

/-- A step of a command, whatever its sub-state. -/
theorem settles_atStep (hpending : e.xferPending = d.xferPending) (hretained : e.rxRetain.length ≤ d.rxRetain.length)
    (hstate : e.state = .init) (hclocks : e.initStep ≠ .clocks) (hcsd : e.initStep ≠ .csd) : Settles p now 5 d e := by
  refine ⟨hpending, hretained, ?_⟩
  rw [tupleRank_of_commanding (.inl ⟨hstate, hclocks, hcsd⟩)]
  exact commandRank_le ..

end

/-- What the evaluation of a step's response may lead to. -/
def Evaluates (eval : State → State) : Prop :=
  ∀ s : State, s.sd.state = .init → s.sd.cmdPh = .idle → Settles s.cfg s.env.now 3 s.sd (eval s).sd

theorem evaluates_initOk {next : InitStep} (hcsd : next ≠ .csd) : Evaluates (initOk next) :=
  fun _ hstate hidle => settles_step rfl (Nat.le_refl _) hstate hidle hcsd

theorem evaluates_unusable (e : Err) : Evaluates (unusable e) :=
  fun _ _ _ => settles_ended rfl (Nat.le_refl _) (.inr (.inl rfl))

theorem evaluates_initFail {first : InitStep} (hcsd : first ≠ .csd) (e : Err) : Evaluates (initFail first e) := by
  intro s hstate hidle
  unfold initFail
  dsimp only
  split
  · exact settles_ended rfl (Nat.le_refl _) (.inl rfl)
  · exact settles_step rfl (Nat.le_refl _) hstate hidle hcsd

/-- Registers set before an evaluation. -/
theorem evaluates_onSd {f : Sd → Sd} {eval : State → State} (h : Evaluates eval) {s : State}
    (hpending : (f s.sd).xferPending = s.sd.xferPending) (hretained : (f s.sd).rxRetain = s.sd.rxRetain)
    (hstate : (f s.sd).state = .init) (hidle : (f s.sd).cmdPh = .idle) : Settles s.cfg s.env.now 3 s.sd (eval (s.onSd f)).sd := by
  obtain ⟨hpending', hretained', hrank⟩ := h (s.onSd f) hstate hidle
  exact ⟨hpending'.trans hpending, hretained'.trans_eq (congrArg List.length hretained), hrank⟩

theorem evaluates_acceptR1 {good : Byte → Bool} {first : InitStep} {next : State → State} (hcsd : first ≠ .csd) (hnext : Evaluates next) :
    Evaluates (acceptR1 good first next) := by
  intro s hstate hidle
  unfold acceptR1
  split
  · exact hnext s hstate hidle
  split
  · exact evaluates_unusable _ s hstate hidle
  · exact evaluates_initFail hcsd _ s hstate hidle

theorem evaluates_evalCmd0 : Evaluates evalCmd0 := by
  intro s hstate hidle
  unfold evalCmd0
  split
  · exact evaluates_initOk (by decide) s hstate hidle
  · exact evaluates_initFail (by decide) _ s hstate hidle

theorem evaluates_evalCmd8 : Evaluates evalCmd8 := by
  intro s hstate hidle
  unfold evalCmd8
  split
  · exact evaluates_onSd (evaluates_initOk (by decide)) rfl rfl hstate hidle
  split
  · exact evaluates_initFail (by decide) _ s hstate hidle
  split
  · exact evaluates_initFail (by decide) _ s hstate hidle
  · exact evaluates_onSd (evaluates_initOk (by decide)) rfl rfl hstate hidle

theorem evaluates_evalCmd59 : Evaluates evalCmd59 :=
  evaluates_acceptR1 (by decide) fun _ hstate hidle => evaluates_onSd (evaluates_initOk (by decide)) rfl rfl hstate hidle

theorem evaluates_evalCmd55 : Evaluates evalCmd55 :=
  evaluates_acceptR1 (by decide) fun _ hstate hidle => settles_step rfl (Nat.le_refl _) hstate hidle nofun

theorem evaluates_evalInitLoop {back : InitStep} (hcsd : back ≠ .csd) : Evaluates (evalInitLoop back) := by
  intro s hstate hidle
  unfold evalInitLoop
  split
  · exact evaluates_initOk (by decide) s hstate hidle
  split
  · split
    · exact settles_ended rfl (Nat.le_refl _) (.inr (.inr rfl))
    · exact settles_step rfl (Nat.le_refl _) hstate hidle hcsd
  split
  · exact evaluates_unusable _ s hstate hidle
  · exact evaluates_initFail hcsd _ s hstate hidle

theorem evaluates_evalCmd58 : Evaluates evalCmd58 := by
  refine evaluates_acceptR1 (by decide) fun s hstate hidle => ?_
  split
  · exact evaluates_onSd (evaluates_initOk (by decide)) rfl rfl hstate hidle
  · exact evaluates_unusable _ s hstate hidle

/-- The CSD's token is searched from now on. -/
theorem evaluates_evalCmd9 : Evaluates evalCmd9 := by
  refine evaluates_acceptR1 (by decide) fun s hstate _ => ?_
  exact settles_searching rfl (Nat.le_refl _) (.inl ⟨hstate, rfl⟩) rfl ⟨_, rfl⟩

theorem evaluates_evalCmd16 : Evaluates evalCmd16 :=
  evaluates_acceptR1 (by decide) fun _ _ _ => ⟨rfl, Nat.le_refl _, Nat.le_refl 3⟩

/-- A command of initialisation. -/
theorem forward_initCommand {idx : BitVec 6} {arg : U32} {rtype : RType} {preBusy : Bool} {first : InitStep} {keep : State → Bool}
    {eval : State → State} (hcsd : first ≠ .csd) (heval : Evaluates eval) {s : State} (hstate : s.sd.state = .init)
    (hstep : s.sd.initStep ≠ .clocks ∧ s.sd.initStep ≠ .csd) : Forward s (initCommand idx arg rtype preBusy first keep eval s) := by
  have hin : commanding s.sd := .inl ⟨hstate, hstep⟩
  have hdone : ∀ next : State → State, Evaluates next → s.sd.cmdPh = .done →
      Forward s (.again, next (s.onSd fun d => { d with session := keep s && d.session, cmdPh := .idle })) := by
    intro next hnext hph
    have hrank : tupleRank s.cfg s.env.now s.sd = 4 := by rw [tupleRank_of_commanding hin, commandRank, hph]
    exact forward_again (Settles.nearer (n := 3) (evaluates_onSd hnext rfl rfl hstate rfl) (by omega))
  unfold initCommand
  split
  next hph => exact forward_startCmd hin hph idx arg rtype preBusy
  next hph =>
    dsimp only
    split
    · exact hdone _ (evaluates_initFail hcsd _) hph
    · exact hdone _ (evaluates_initFail hcsd _) hph
    · exact hdone _ heval hph
  all_goals exact forward_cmdStep hin

/-! ### The exception entry (R503) -/

/-- The phases that raise errors. -/
def raises (ph : OpPhase) : Prop := ph ∉ [OpPhase.none, .rdStop, .rdAbort, .wrSend, .wrStopToken, .wrAbort]

theorem settles_abortTo {ph : OpPhase} (hph : ph = .rdAbort ∨ ph = .wrAbort) {s : State} (hstate : s.sd.state = .read ∨ s.sd.state = .write) :
    Settles s.cfg s.env.now 3 s.sd (abortTo ph s).sd := by
  unfold abortTo
  split
  · exact settles_finish false s
  · exact settles_idle rfl (Nat.le_refl _) (.inr ⟨hstate, by rcases hph with rfl | rfl <;> simp⟩) rfl

/-- An error of an operation ends it, aborts it, or waits for the stop. -/
theorem settles_raise_operation {s : State} (hstate : s.sd.state = .read ∨ s.sd.state = .write) (hraises : raises s.sd.opPhase) (e : Err) :
    Settles s.cfg s.env.now 3 s.sd (raise e s).sd := by
  have hinit : s.sd.state ≠ .init := by rcases hstate with h | h <;> rw [h] <;> decide
  rw [raise_of_ne_init hinit]
  have habort : ∀ ph, ph = .rdAbort ∨ ph = .wrAbort → Settles s.cfg s.env.now 3 s.sd (abortTo ph (keepError e s)).sd :=
    fun ph hph => settles_abortTo (s := keepError e s) hph hstate
  have hfinish : Settles s.cfg s.env.now 3 s.sd (finish false .ready (keepError e s)).sd := settles_finish false (keepError e s)
  cases hphase : s.sd.opPhase
  case rdData =>
    unfold raiseFrom
    dsimp only
    split
    · exact settles_searching rfl (Nat.le_refl _) (.inr hstate) rfl ⟨_, rfl⟩
    · exact habort _ (.inl rfl)
  case rdToken => exact habort _ (.inl rfl)
  case wrBusy | wrDresp | wrStopBusy => exact habort _ (.inr rfl)
  case rdCmd | wrCmd | wrFinalBusy | wrStopPostBusy | wrStatus => exact hfinish
  all_goals
    rw [hphase] at hraises
    exact absurd hraises (by simp [raises])

/-- An error of the CSD read fails its step. -/
theorem settles_raise {s : State} (hphased : phased s.sd) (hraises : raises s.sd.opPhase) (e : Err) :
    Settles s.cfg s.env.now 5 s.sd (raise e s).sd := by
  rcases hphased with ⟨hinit, _⟩ | hstate
  · rw [raise_of_init hinit]
    unfold initFail
    dsimp only
    split
    · exact settles_ended rfl (Nat.zero_le _) (.inl rfl)
    · exact settles_atStep rfl (Nat.zero_le _) hinit nofun nofun
  · exact (settles_raise_operation hstate hraises e).mono (by decide)

/-! ### Operations -/

/-- Any outcome that retains no more bytes, after a byte was consumed. -/
theorem settles_any {p : Params} {now : U32} {d e : Sd} (hpending : e.xferPending = d.xferPending)
    (hretained : e.rxRetain.length ≤ d.rxRetain.length) : Settles p now 6 d e := ⟨hpending, hretained, tupleRank_le ..⟩

section
variable {s : State} (hphased : phased s.sd)
include hphased

omit hphased in
/-- A search of an operation that found its byte. -/
theorem forward_found {t : State} (skip : Bool) {rest : List Byte} (hbyte : rest.length < s.sd.rxRetain.length)
    (h : Settles s.cfg s.env.now 6 (s.onSd fun d => { d with rxSkip := skip, rxRetain := rest }).sd t.sd) : Forward s (.again, t) :=
  forward_again (h.consumed (by decide) rfl hbyte)

/-- A search of an operation past its window. -/
theorem forward_late {t : State} (skip : Bool) {w : U32} (hsearch : phaseRank s.cfg s.env.now s.sd = searchRank s.env.now s.sd w)
    (hlate : expired s.env.now s.sd.tAnchor w = true)
    (h : Settles s.cfg s.env.now 5 (s.onSd fun d => { d with rxSkip := skip, rxRetain := [] }).sd t.sd) : Forward s (.again, t) := by
  have hrank : tupleRank s.cfg s.env.now s.sd = 6 := by
    rw [tupleRank_of_phased hphased, hsearch, searchRank, hlate]
    rfl
  exact forward_again (Settles.nearer (n := 5) ⟨h.pending, h.retained.trans (Nat.zero_le _), h.rank⟩ (by omega))

theorem forward_rdToken (hph : s.sd.opPhase = .rdToken) : Forward s (rdToken s) := by
  have hraises : raises s.sd.opPhase := by rw [hph]; simp [raises]
  rcases searchStep_ends isReadToken s.cfg.busyTimeoutMs s with ⟨b, skip, rest, hbyte, e⟩ | ⟨skip, hlate, e⟩ | ⟨u, e⟩ <;>
    simp only [rdToken, e]
  · split
    · exact forward_found skip hbyte (settles_any rfl (Nat.le_refl _))
    · exact forward_found skip hbyte ((settles_raise (s := s.onSd fun d => { d with rxSkip := skip, rxRetain := rest })
        (by exact hphased) (by exact hraises) _).mono (by decide))
  · refine forward_late hphased skip (w := s.cfg.busyTimeoutMs) (by rw [phaseRank, hph]) hlate ?_
    exact settles_raise (s := s.onSd fun d => { d with rxSkip := skip, rxRetain := [] }) (by exact hphased) (by exact hraises) _
  · exact forward_yield _ _

theorem forward_rdStop (hph : s.sd.opPhase = .rdStop) : Forward s (rdStop s) := by
  rcases searchStep_ends isResponse s.cfg.cmdTimeoutMs s with ⟨b, skip, rest, hbyte, e⟩ | ⟨skip, hlate, e⟩ | ⟨u, e⟩ <;>
    simp only [rdStop, e]
  · exact forward_found skip hbyte (settles_any rfl (Nat.zero_le _))
  · refine forward_late hphased skip (w := s.cfg.cmdTimeoutMs) (by rw [phaseRank, hph]) hlate ?_
    exact (settles_finish false ((s.onSd fun d => { d with rxSkip := skip, rxRetain := [] }).onOp
      fun o => { o with err := if o.err = .ok then .cmdTimeout else o.err })).mono (by decide)
  · exact forward_yield _ _

theorem forward_writeBusy {next : State → State} (hraises : raises s.sd.opPhase)
    (hsearch : phaseRank s.cfg s.env.now s.sd = searchRank s.env.now s.sd s.cfg.busyTimeoutMs)
    (hnext : ∀ u : State, (next u).sd.xferPending = u.sd.xferPending ∧ (next u).sd.rxRetain.length ≤ u.sd.rxRetain.length) :
    Forward s (writeBusy next s) := by
  rcases searchStep_ends isReady s.cfg.busyTimeoutMs s with ⟨b, skip, rest, hbyte, e⟩ | ⟨skip, hlate, e⟩ | ⟨u, e⟩ <;>
    simp only [writeBusy, e]
  · exact forward_found skip hbyte (settles_any (hnext _).1 (hnext _).2)
  · refine forward_late hphased skip hsearch hlate ?_
    exact settles_raise (s := s.onSd fun d => { d with rxSkip := skip, rxRetain := [] }) (by exact hphased) (by exact hraises) _
  · exact forward_yield _ _

omit hphased in
theorem settles_blockAccepted (s : State) : Settles s.cfg s.env.now 6 s.sd (blockAccepted s).sd := by
  rw [blockAccepted_eq]
  exact settles_any rfl (Nat.le_refl _)

theorem forward_wrDresp (hph : s.sd.opPhase = .wrDresp) : Forward s (wrDresp s) := by
  have hraises : raises s.sd.opPhase := by rw [hph]; simp [raises]
  rcases searchStep_ends isDataResponse s.cfg.cmdTimeoutMs s with ⟨b, skip, rest, hbyte, e⟩ | ⟨skip, hlate, e⟩ | ⟨u, e⟩ <;>
    simp only [wrDresp, e]
  · have hraise : ∀ err, Forward s (.again, raise err (s.onSd fun d => { d with rxSkip := skip, rxRetain := rest })) := fun err =>
      forward_found skip hbyte ((settles_raise (s := s.onSd fun d => { d with rxSkip := skip, rxRetain := rest })
        (by exact hphased) (by exact hraises) err).mono (by decide))
    split
    · exact forward_found skip hbyte (settles_blockAccepted (s.onSd fun d => { d with rxSkip := skip, rxRetain := rest }))
    split
    · exact hraise _
    split
    · exact hraise _
    · exact hraise _
  · refine forward_late hphased skip (w := s.cfg.cmdTimeoutMs) (by rw [phaseRank, hph]) hlate ?_
    exact settles_raise (s := s.onSd fun d => { d with rxSkip := skip, rxRetain := [] }) (by exact hphased) (by exact hraises) _
  · exact forward_yield _ _

/-- What a block received leads to ranks below the receive. -/
theorem settles_blockReceived : Settles s.cfg s.env.now 5 s.sd (blockReceived s).sd := by
  unfold blockReceived
  split
  next hinit =>
    unfold csdDecode
    split
    · exact settles_atStep rfl (Nat.le_refl _) hinit nofun nofun
    · exact settles_ended rfl (Nat.le_refl _) (.inr (.inl rfl))
  next hinit =>
    have hstate : s.sd.state = .read ∨ s.sd.state = .write := hphased.resolve_left fun h => hinit h.1
    dsimp only
    split
    · exact settles_searching rfl (Nat.le_refl _) (.inr hstate) rfl ⟨_, rfl⟩
    split
    · exact (settles_finish true (s.onOp fun o => { o with done := o.idx + 1 })).mono (by decide)
    · exact settles_searching rfl (Nat.le_refl _) (.inr hstate) rfl ⟨_, rfl⟩

theorem forward_rdData (hph : s.sd.opPhase = .rdData) {r : Ctl × State} (h : rdData s = .ok r) : Forward s r := by
  have hrank : tupleRank s.cfg s.env.now s.sd = 6 := by rw [tupleRank_of_phased hphased, phaseRank, hph]
  rw [rdData_eq] at h
  cases htake : takeBytes (s.sd.rxRetain.take (blockNeed s.op))
      (s.onSd fun d => { d with rxRetain := d.rxRetain.drop (blockNeed s.op) }) with
  | error e => rw [htake] at h; cases h
  | ok u =>
    rw [htake] at h
    cases h
    have htook := took_takeBytes htake
    have hcfg : u.cfg = s.cfg := (sdRun_takeBytes htake).cfg
    have hnow : u.env.now = s.env.now := congrArg Env.now htook.env
    have hphasedU : phased u.sd := by rw [htook.sd]; exact hphased
    have hraises : raises u.sd.opPhase := by rw [htook.sd]; show raises s.sd.opPhase; rw [hph]; simp [raises]
    have hpending : u.sd.xferPending = s.sd.xferPending := by rw [htook.sd]; rfl
    have hretained : u.sd.rxRetain.length ≤ s.sd.rxRetain.length := by
      rw [htook.sd]
      show (s.sd.rxRetain.drop _).length ≤ _
      rw [List.length_drop]
      exact Nat.sub_le _ _
    have hdone : ∀ t : State, Settles u.cfg u.env.now 5 u.sd t.sd → Forward s (.again, t) := by
      intro t ht
      rw [hcfg, hnow] at ht
      exact forward_again (Settles.nearer (n := 5) ⟨ht.pending.trans hpending, ht.retained.trans hretained, ht.rank⟩ (by omega))
    unfold receiveRest
    split
    · split
      · exact hdone _ (settles_raise hphasedU hraises _)
      · exact hdone _ (settles_blockReceived hphasedU)
    · split <;> split <;> exact forward_yield _ _

end

section
variable {s : State} (hstate : s.sd.state = .read ∨ s.sd.state = .write)
include hstate

omit hstate in
/-- The end of a command of an operation. -/
theorem forward_ended {t : State} (hin : commanding s.sd) (hph : s.sd.cmdPh = .done)
    (h : Settles s.cfg s.env.now 3 (s.onSd fun d => { d with cmdPh := .idle }).sd t.sd) : Forward s (.again, t) := by
  have hrank : tupleRank s.cfg s.env.now s.sd = 4 := by rw [tupleRank_of_commanding hin, commandRank, hph]
  exact forward_again (Settles.nearer (n := 3) ⟨h.pending, h.retained, h.rank⟩ (by omega))

theorem forward_opCommandPhase {single multi : BitVec 6} {accepted : State → State} (hcmd : s.sd.opPhase = .rdCmd ∨ s.sd.opPhase = .wrCmd)
    (haccepted : ∀ u : State, u.sd.state = .read ∨ u.sd.state = .write → Settles u.cfg u.env.now 3 u.sd (accepted u).sd) :
    Forward s (opCommandPhase single multi accepted s) := by
  have hin : commanding s.sd := .inr ⟨hstate, by rcases hcmd with h | h <;> simp [h]⟩
  have hraises : raises s.sd.opPhase := by rcases hcmd with h | h <;> rw [h] <;> simp [raises]
  have hraise : ∀ err, s.sd.cmdPh = .done → Forward s (.again, raise err (s.onSd fun d => { d with cmdPh := .idle })) := fun err hph =>
    forward_ended hin hph (settles_raise_operation (s := s.onSd fun d => { d with cmdPh := .idle }) hstate hraises err)
  unfold opCommandPhase
  split
  next hph => exact forward_startCmd hin hph (if s.op.count = 1 then single else multi) (cardArg s.sd.blockAddr s.op.addr) .r1 true
  next hph =>
    dsimp only
    split
    · exact hraise _ hph
    · exact hraise _ hph
    split
    · exact forward_ended hin hph (haccepted (s.onSd fun d => { d with cmdPh := .idle }) hstate)
    · exact hraise _ hph
  all_goals exact forward_cmdStep hin

theorem forward_rdCmd (hph : s.sd.opPhase = .rdCmd) : Forward s (rdCmd s) :=
  forward_opCommandPhase hstate (.inl hph) fun _ hu => settles_searching rfl (Nat.le_refl _) (.inr hu) rfl ⟨_, rfl⟩

theorem forward_wrCmd (hph : s.sd.opPhase = .wrCmd) : Forward s (wrCmd s) := by
  refine forward_opCommandPhase hstate (.inr hph) fun u hu => ⟨rfl, Nat.le_refl _, ?_⟩
  exact (tupleRank_of_phased (by exact .inr hu)).trans_le (Nat.zero_le 3)

theorem forward_abortPhase (hph : s.sd.opPhase = .rdAbort ∨ s.sd.opPhase = .wrAbort) : Forward s (abortPhase s) := by
  have hin : commanding s.sd := .inr ⟨hstate, by rcases hph with h | h <;> simp [h]⟩
  unfold abortPhase
  split
  next hidle => exact forward_startCmd hin hidle 12 0 .r1b false
  next hdone => exact forward_ended hin hdone (settles_finish false (s.onSd fun d => { d with cmdPh := .idle }))
  all_goals exact forward_cmdStep hin

theorem forward_wrStatus (hph : s.sd.opPhase = .wrStatus) : Forward s (wrStatus s) := by
  have hin : commanding s.sd := .inr ⟨hstate, by simp [hph]⟩
  have hraises : raises s.sd.opPhase := by rw [hph]; simp [raises]
  have hraise : ∀ err, s.sd.cmdPh = .done → Forward s (.again, raise err (s.onSd fun d => { d with cmdPh := .idle })) := fun err hdone =>
    forward_ended hin hdone (settles_raise_operation (s := s.onSd fun d => { d with cmdPh := .idle }) hstate hraises err)
  unfold wrStatus
  split
  next hidle => exact forward_startCmd hin hidle 13 0 .r2 false
  next hdone =>
    dsimp only
    split
    · exact hraise _ hdone
    split
    · exact forward_ended hin hdone (settles_finish true (s.onSd fun d => { d with cmdPh := .idle }))
    · exact hraise _ hdone
  all_goals exact forward_cmdStep hin

theorem forward_readHandler {r : Ctl × State} (h : readHandler s = .ok r) : Forward s r := by
  have hphased : phased s.sd := .inr hstate
  unfold readHandler at h
  split at h
  next hph => cases h; exact forward_rdCmd hstate hph
  next hph => cases h; exact forward_rdToken hphased hph
  next hph => exact forward_rdData hphased hph h
  next hph => cases h; exact forward_rdStop hphased hph
  next hph => cases h; exact forward_abortPhase hstate (.inl hph)
  all_goals cases h

theorem forward_writeHandler {r : Ctl × State} (h : writeHandler s = .ok r) : Forward s r := by
  have hphased : phased s.sd := .inr hstate
  have hbusy : ∀ (next : State → State), s.sd.opPhase = .wrBusy ∨ s.sd.opPhase = .wrFinalBusy ∨ s.sd.opPhase = .wrStopBusy ∨
      s.sd.opPhase = .wrStopPostBusy →
      (∀ u : State, (next u).sd.xferPending = u.sd.xferPending ∧ (next u).sd.rxRetain.length ≤ u.sd.rxRetain.length) →
      Forward s (writeBusy next s) := by
    intro next hph hnext
    refine forward_writeBusy hphased ?_ ?_ hnext
    · rcases hph with h | h | h | h <;> rw [h] <;> simp [raises]
    · rw [phaseRank]
      rcases hph with h | h | h | h <;> rw [h]
  unfold writeHandler at h
  split at h
  next hph => cases h; exact forward_wrCmd hstate hph
  next hph => cases h; exact hbusy _ (.inl hph) fun _ => ⟨rfl, Nat.le_refl _⟩
  next hph =>
    unfold wrSend at h
    split at h
    · cases h
    · obtain ⟨payload, _, h⟩ := bind_eq_ok h
      cases h
      exact forward_yield _ _
  next hph => cases h; exact forward_wrDresp hphased hph
  next hph => cases h; exact hbusy _ (.inr (.inl hph)) fun _ => ⟨rfl, Nat.zero_le _⟩
  next hph => cases h; exact hbusy _ (.inr (.inr (.inl hph))) fun _ => ⟨rfl, Nat.le_refl _⟩
  next hph => cases h; exact forward_yield _ _
  next hph => cases h; exact hbusy _ (.inr (.inr (.inr hph))) fun _ => ⟨rfl, Nat.le_refl _⟩
  next hph => cases h; exact forward_wrStatus hstate hph
  next hph => cases h; exact forward_abortPhase hstate (.inr hph)
  all_goals cases h

end

/-! ### The handler of the control tuple -/

theorem forward_initHandler {s : State} (hstate : s.sd.state = .init) {r : Ctl × State} (h : initHandler s = .ok r) : Forward s r := by
  have hcommand : ∀ {idx arg rtype preBusy first keep eval}, first ≠ .csd → Evaluates eval → s.sd.initStep ≠ .clocks ∧ s.sd.initStep ≠ .csd →
      Forward s (initCommand idx arg rtype preBusy first keep eval s) := fun hcsd heval hstep => forward_initCommand hcsd heval hstate hstep
  unfold initHandler at h
  split at h
  case h_10 hstep =>
    have hphased : phased s.sd := .inl ⟨hstate, hstep⟩
    unfold initCsd at h
    split at h
    next hph => cases h; exact forward_rdToken hphased hph
    next hph => exact forward_rdData hphased hph h
    all_goals cases h
  case h_1 =>
    cases h
    unfold initClocks
    split <;> exact forward_yield _ _
  case h_2 hstep => cases h; exact hcommand (by decide) evaluates_evalCmd0 (by rw [hstep]; decide)
  case h_3 hstep => cases h; exact hcommand (by decide) evaluates_evalCmd8 (by rw [hstep]; decide)
  case h_4 hstep => cases h; exact hcommand (by decide) evaluates_evalCmd59 (by rw [hstep]; decide)
  case h_5 hstep => cases h; exact hcommand (by decide) evaluates_evalCmd55 (by rw [hstep]; decide)
  case h_6 hstep => cases h; exact hcommand (by decide) (evaluates_evalInitLoop (by decide)) (by rw [hstep]; decide)
  case h_7 hstep => cases h; exact hcommand (by decide) (evaluates_evalInitLoop (by decide)) (by rw [hstep]; decide)
  case h_8 hstep => cases h; exact hcommand (by decide) evaluates_evalCmd58 (by rw [hstep]; decide)
  case h_9 hstep => cases h; exact hcommand (by decide) evaluates_evalCmd9 (by rw [hstep]; decide)
  case h_11 hstep => cases h; exact hcommand (by decide) evaluates_evalCmd16 (by rw [hstep]; decide)

/-- Every handler run that asks for another brings the poll nearer to its end. -/
theorem forward_sdHandler {s : State} {r : Ctl × State} (h : sdHandler s = .ok r) : Forward s r := by
  unfold sdHandler at h
  split at h
  · cases h
  split at h
  next hstate => exact forward_initHandler hstate h
  next hstate =>
    split at h
    · exact forward_readHandler (.inl hstate) h
    · cases h
  next hstate =>
    split at h
    · exact forward_writeHandler (.inr hstate) h
    · cases h
  next hstate =>
    split at h
    · cases h
      have hrank : tupleRank s.cfg s.env.now s.sd = 1 := by rw [tupleRank, hstate]
      exact forward_again (Settles.nearer (n := 0) ⟨rfl, Nat.zero_le _, Nat.le_refl 0⟩ (by omega))
    · cases h
      exact forward_yield _ _
  all_goals
    cases h
    exact forward_yield _ _

end Sys2Proof.Machine
end

section
/-! Every service poll returns: its rounds are bounded by the received bytes and the rank of the control tuple (42_block_io.md R277-R279;
log 20). -/

namespace Sys2Proof.Machine

/-! ### Handlers reach no bound -/

theorem returns_takeByte (b : Byte) (s : State) : Returns (takeByte b s) := by
  by_cases hcsd : readsCsd s
  · rw [takeByte_csd hcsd]
    exact returns_ok _
  cases hvalid : s.op.valid with
  | false =>
    rw [takeByte_invalid hcsd hvalid]
    exact returns_meaningless
  | true =>
    by_cases hlen : s.op.byte.toNat < s.op.len.toNat
    · rw [takeByte_payload hcsd hvalid hlen]
      exact returns_map (returns_writeBytes ..)
    · rw [takeByte_crc hcsd hvalid hlen]
      exact returns_ok _

theorem returns_takeBytes (bytes : List Byte) (s : State) : Returns (takeBytes bytes s) := by
  induction bytes generalizing s with
  | nil => exact returns_ok s
  | cons b rest ih => exact returns_bind (returns_takeByte b s) fun u _ => ih u

theorem returns_deliver (s : State) : Returns (deliver s) := by
  cases hrole : s.sd.xferRole with
  | search => rw [deliver_search hrole]; exact returns_ok _
  | echo => rw [deliver_echo hrole]; exact returns_ok _
  | payload => rw [deliver_payload (.inl hrole)]; exact returns_map (returns_takeBytes ..)
  | payloadStop => rw [deliver_payload (.inr hrole)]; exact returns_map (returns_takeBytes ..)

theorem returns_rdData (s : State) : Returns (rdData s) := by
  rw [rdData_eq]
  exact returns_map (returns_takeBytes ..)

theorem returns_readHandler (s : State) : Returns (readHandler s) := by
  unfold readHandler
  split
  case h_3 => exact returns_rdData s
  case h_1 | h_2 | h_4 | h_5 => exact returns_ok _
  all_goals exact returns_tuple

theorem returns_writeHandler (s : State) : Returns (writeHandler s) := by
  unfold writeHandler
  split
  case h_3 => exact returns_ite (fun _ => returns_meaningless) fun _ => returns_bind (returns_readBytes ..) fun _ _ => returns_ok _
  case h_1 | h_2 | h_4 | h_5 | h_6 | h_7 | h_8 | h_9 | h_10 => exact returns_ok _
  all_goals exact returns_tuple

theorem returns_initHandler (s : State) : Returns (initHandler s) := by
  unfold initHandler
  split
  case h_10 =>
    unfold initCsd
    split
    case h_1 => exact returns_ok _
    case h_2 => exact returns_rdData s
    all_goals exact returns_tuple
  all_goals exact returns_ok _

theorem returns_sdHandler (s : State) : Returns (sdHandler s) := by
  refine returns_ite (fun _ => returns_meaningless) fun _ => ?_
  split
  · exact returns_initHandler s
  · exact returns_ite (fun _ => returns_readHandler s) fun _ => returns_meaningless
  · exact returns_ite (fun _ => returns_writeHandler s) fun _ => returns_meaningless
  · exact returns_ite (fun _ => returns_ok _) fun _ => returns_ok _
  all_goals exact returns_ok _

theorem returns_removalOrHandler (s : State) : Returns (removalOrHandler s) :=
  returns_ite (fun _ => returns_ok _) fun _ => returns_sdHandler s

theorem returns_pollBody (s : State) : Returns (pollBody s) :=
  returns_ite (fun _ => returns_ok _) fun _ =>
    returns_ite (fun _ => returns_bind (returns_deliver s) fun u _ => returns_removalOrHandler u) fun _ => returns_removalOrHandler s

theorem returns_pollRound (s : State) : Returns (pollRound s) :=
  returns_bind (returns_pollBody s) fun r _ => returns_bind (returns_runCallback r.2) fun _ _ => returns_ok _

/-! ### The measure of a poll -/

/-- What a poll has still to work through; a card gone is to be noticed first (R305). -/
def pollMeasure (s : State) : Nat :=
  weight s.cfg s.env.now s.sd + if s.env.cardDetect = false ∧ s.sd.state ≠ .absent then 2 else 0

/-- The retained bytes bound it. -/
theorem pollMeasure_le (s : State) : pollMeasure s ≤ 8 * s.sd.rxRetain.length + 8 := by
  have hrank := tupleRank_le s.cfg s.env.now s.sd
  unfold pollMeasure weight
  split <;> omega

/-- What neither begins nor ends a transaction, and leaves the measure. -/
structure Carries (s t : State) : Prop where
  pending : t.sd.xferPending = s.sd.xferPending
  cfg : t.cfg = s.cfg
  now : t.env.now = s.env.now
  card : t.env.cardDetect = s.env.cardDetect
  measure : pollMeasure t = pollMeasure s

theorem Carries.refl (s : State) : Carries s s := ⟨rfl, rfl, rfl, rfl, rfl⟩

theorem Carries.trans {s t u : State} (hst : Carries s t) (htu : Carries t u) : Carries s u :=
  ⟨htu.pending.trans hst.pending, htu.cfg.trans hst.cfg, htu.now.trans hst.now, htu.card.trans hst.card, htu.measure.trans hst.measure⟩

/-- An operation started ranks as the ready engine it was started on. -/
theorem weight_opStarted {p : Params} {now : U32} {s : State} (hready : s.sd.state = .ready) (dir : OpDir) (addr count : U32) (buf : Ptr)
    (cb : Cb) (ctx : U32) : weight p now (opStarted dir addr count buf cb ctx s).sd = weight p now s.sd := by
  have hbefore : tupleRank p now s.sd = 3 := by rw [tupleRank, hready]
  have hafter : tupleRank p now (opStarted dir addr count buf cb ctx s).sd = 3 := by cases dir <;> rfl
  unfold weight
  rw [hbefore, hafter]
  rfl

/-- The engine kept, or an operation started. -/
theorem carries_of_starts {P : Cb → Prop} {s t : State} (h : KeepsOrStarts P s t) (hcfg : t.cfg = s.cfg) (hnow : t.env.now = s.env.now)
    (hcard : t.env.cardDetect = s.env.cardDetect) : Carries s t := by
  rcases h with ⟨hsd, _⟩ | ⟨hready, dir, addr, count, buf, cb, ctx, _, hsd, _⟩
  · exact ⟨by rw [hsd], hcfg, hnow, hcard, by rw [pollMeasure, pollMeasure, hsd, hcfg, hnow, hcard]⟩
  · have hstarted : t.sd.state ≠ .absent := by
      rw [hsd]
      show opState dir ≠ .absent
      cases dir <;> decide
    have hstate : s.sd.state ≠ .absent := by rw [hready]; decide
    refine ⟨by rw [hsd]; rfl, hcfg, hnow, hcard, ?_⟩
    unfold pollMeasure
    simp only [hcfg, hnow, hcard, hstarted, hstate, ne_eq, not_false_eq_true, and_true]
    rw [hsd, weight_opStarted hready]

theorem carries_of_call {s t : State} (h : CallRun s t) : Carries s t :=
  carries_of_starts h.engine h.cfg (by rw [h.env]) (by rw [h.env])

theorem carries_of_logRun {s t : State} (h : LogRun s t) : Carries s t :=
  carries_of_starts h.engine h.cfg (by rw [h.env]) (by rw [h.env])

theorem carries_callbackCalls {calls : List Instr} {s t : State} (h : callbackCalls calls s = .ok t) : Carries s t := by
  induction calls generalizing s with
  | nil => cases h; exact .refl _
  | cons i rest ih =>
    rw [callbackCalls] at h
    obtain ⟨u, hu, h⟩ := bind_eq_ok h
    have hrecord : Carries u (u.onEnv fun e => { e with cbRets := e.cbRets ++ [e.ret] }) := ⟨rfl, rfl, rfl, rfl, rfl⟩
    exact ((carries_of_call (callRun_callFromCallback (ofOutcome_eq_ok.mp hu))).trans hrecord).trans (ih h)

theorem carries_logSbCb (c : CbCall) (s : State) : Carries s (logSbCb c s) := by
  have hframe := (logSbCb_frame c s).1
  have hsd : (logSbCb c s).sd = s.sd := by have h := congrArg State.sd hframe; exact h
  have hop : (logSbCb c s).op = s.op := by have h := congrArg State.op hframe; exact h
  have hcfg : (logSbCb c s).cfg = s.cfg := by have h := congrArg State.cfg hframe; exact h
  have henv : (logSbCb c s).env = s.env := by have h := congrArg State.env hframe; exact h
  exact carries_of_starts (P := fun _ => True) (.inl ⟨hsd, hop⟩) hcfg (by rw [henv]) (by rw [henv])

/-- A callback may start the next operation, and leaves the measure. -/
theorem carries_runCallback {s t : State} (h : runCallback s = .ok t) : Carries s t := by
  have htaken : Carries s (callbackTaken s) := ⟨rfl, rfl, rfl, rfl, rfl⟩
  unfold runCallback at h
  split at h
  · cases h; exact .refl s
  next c _ =>
    dsimp only at h
    split at h
    · cases h
      exact htaken.trans (carries_of_logRun (logRun_logReadCb c (callbackTaken s)))
    · exact htaken.trans (carries_of_logRun (logRun_logDataCb hookRuns_preemptPoint h))
    · cases h
      exact htaken.trans (carries_logSbCb c (callbackTaken s))
    · have hrecord : Carries (callbackTaken s) ((callbackTaken s).onEnv fun e =>
          { e with callbacks := e.callbacks ++ [c.record], cbScript := e.cbScript.tail }) := ⟨rfl, rfl, rfl, rfl, rfl⟩
      exact (htaken.trans hrecord).trans (carries_callbackCalls h)

/-! ### The rounds of a poll -/

/-- A removal empties the engine. -/
theorem pollMeasure_removal {s : State} (hcard : s.env.cardDetect = false) (hstate : s.sd.state ≠ .absent) :
    (removal s).sd.xferPending = s.sd.xferPending ∧ pollMeasure (removal s) < pollMeasure s := by
  have hbefore : 2 ≤ pollMeasure s := by
    unfold pollMeasure
    rw [if_pos ⟨hcard, hstate⟩]
    exact Nat.le_add_left 2 _
  have hafter : (removal s).sd.xferPending = s.sd.xferPending ∧ pollMeasure (removal s) = 1 := by
    unfold removal
    dsimp only
    split <;> refine ⟨rfl, ?_⟩ <;> unfold pollMeasure <;> rw [if_neg fun h => h.2 rfl] <;> rfl
  exact ⟨hafter.1, by omega⟩

/-- A round that asks for another, after its delivery. -/
theorem pollMeasure_again {s t : State} (h : (s.env.cardDetect = false ∧ s.sd.state ≠ .absent ∧ (Ctl.again, t) = (.again, removal s)) ∨
    ((s.env.cardDetect = true ∨ s.sd.state = .absent) ∧ sdHandler s = .ok (.again, t))) :
    t.sd.xferPending = s.sd.xferPending ∧ pollMeasure t < pollMeasure s := by
  rcases h with ⟨hcard, hstate, ht⟩ | ⟨hpresent, hrun⟩
  · cases ht
    exact pollMeasure_removal hcard hstate
  · have hcard : s.env.cardDetect = true := by
      rcases hpresent with h | habsent
      · exact h
      · rw [sdHandler_absent habsent] at hrun
        cases hcard : s.env.cardDetect
        · rw [hcard] at hrun
          cases hrun
        · rfl
    obtain ⟨hpending, hless⟩ := forward_sdHandler hrun rfl
    have hsd := sdRun_sdHandler hrun
    have hcfg : t.cfg = s.cfg := hsd.cfg
    have henv := hsd.env
    have hnow : t.env.now = s.env.now := by have h := congrArg Env.now henv; exact h
    have hkept : t.env.cardDetect = true := by have h := congrArg Env.cardDetect henv; exact h.trans hcard
    refine ⟨hpending, ?_⟩
    unfold pollMeasure
    rw [hcfg, hnow, hkept, hcard, if_neg (by simp), if_neg (by simp)]
    exact hless

/-- What a delivery leaves: no transaction, and at most the received bytes more. -/
theorem deliver_retains {s t : State} (h : deliver s = .ok t) :
    t.sd.xferPending = false ∧ t.sd.rxRetain.length ≤ s.sd.rxRetain.length + s.env.inBytes.length := by
  rcases deliver_cases h with ⟨_, rfl⟩ | ⟨_, rfl⟩ | ⟨_, u, hu, rfl⟩
  · refine ⟨rfl, ?_⟩
    show (s.sd.rxRetain ++ s.env.inBytes).length ≤ _
    rw [List.length_append]
  · exact ⟨rfl, Nat.le_add_right _ _⟩
  · refine ⟨rfl, ?_⟩
    show u.sd.rxRetain.length ≤ _
    rw [(took_takeBytes hu).sd]
    exact Nat.le_add_right _ _

/-- A round that asks for another leaves no transaction and less to do than the received bytes allow; without a delivery, less than before. -/
theorem pollRound_again {s t : State} (h : pollRound s = .ok (.again, t)) : t.sd.xferPending = false ∧
    pollMeasure t < 8 * (s.sd.rxRetain.length + s.env.inBytes.length) + 8 ∧ (s.sd.xferPending = false → pollMeasure t < pollMeasure s) := by
  obtain ⟨⟨c, u⟩, hbody, hcallback, hc⟩ := pollRound_cases h
  cases hc
  have hcarries : Carries u t := carries_runCallback hcallback
  rcases pollBody_cases hbody with ⟨_, hr⟩ | ⟨_, v, hv, hrun⟩
  · cases hr
  · have hagain := pollMeasure_again hrun
    have hle := pollMeasure_le v
    rw [hcarries.pending, hcarries.measure, hagain.1]
    rcases hv with ⟨hpending, hdeliver⟩ | ⟨hpending, rfl⟩
    · obtain ⟨hdone, hretained⟩ := deliver_retains hdeliver
      exact ⟨hdone, by omega, fun h => by rw [hpending] at h; cases h⟩
    · exact ⟨hpending, by omega, fun _ => hagain.2⟩

theorem returns_pollLoop {fuel : Nat} {s : State} (hpending : s.sd.xferPending = false) (h : pollMeasure s < fuel) :
    Returns (pollLoop fuel s) := by
  induction fuel generalizing s with
  | zero => exact absurd h (Nat.not_lt_zero _)
  | succ fuel ih =>
    refine returns_bind (returns_pollRound s) fun ⟨c, t⟩ hround => ?_
    cases c with
    | yield => exact returns_ok t
    | again =>
      obtain ⟨hnone, _, hless⟩ := pollRound_again hround
      exact ih hnone ((hless hpending).trans_le (Nat.le_of_lt_succ h))

/-- The first round may deliver; the rest are bounded. -/
theorem returns_sdPoll (now : U32) (cardDetect : Bool) (s : State) : Returns (sdPoll now cardDetect s) := by
  have hbound : pollBound s = (63 + 8 * (s.sd.rxRetain.length + s.env.inBytes.length)) + 1 := by unfold pollBound; omega
  unfold sdPoll
  rw [hbound]
  refine returns_bind (returns_pollRound _) fun ⟨c, t⟩ hround => ?_
  cases c with
  | yield => exact returns_ok t
  | again =>
    obtain ⟨hnone, hless, _⟩ := pollRound_again hround
    have hless : pollMeasure t < 8 * (s.sd.rxRetain.length + s.env.inBytes.length) + 8 := hless
    exact returns_pollLoop hnone (by omega)

/-- Settles O17: the bounds on the rounds exceed what each loop needs. -/
theorem callsReturn : Obligations.CallsReturn :=
  ⟨fun s len => (toOutcome_ne_bound (returns_doCheckout passing_preemptPoint len s)).2,
    fun s now cardDetect => (toOutcome_ne_bound (returns_map (returns_sdPoll now cardDetect s))).1,
    fun s now => (toOutcome_ne_bound (returns_map (returns_logLoop (s := ticked now s) (logRank_lt _)))).1⟩

end Sys2Proof.Machine
end
